-- ==== Sys2Proof/Word.lean ====
section
/-! DEFINITION. The word types of FCPE (rules R10, R76): an 8-bit byte, the 16-bit length registers,
the 32-bit bus word, and the 16-byte sequences that the AES primitive works on (rule R9). -/

namespace Sys2Proof

/-- A byte (rule R10). -/
abbrev Byte := BitVec 8

/-- A 16-bit register (RXLEN, OPTLEN, TXODLEN, TXLEN, FLEN) or a byte offset of the register space (rule R70). -/
abbrev Half := BitVec 16

/-- A 32-bit register, or one word of the host bus (rule R76). -/
abbrev Word := BitVec 32

/-- A sequence of exactly 16 bytes in frame order, byte 0 first (rules R9, R73): Block128, and Key128. -/
abbrev Block := { bytes : List Byte // bytes.length = 16 }

/-- Sixteen zero bytes. -/
def Block.zero : Block := ⟨List.replicate 16 0, by simp⟩

end Sys2Proof
end

