-- ==== Sys2Proof/Config.lean ====
section
/-! DEFINITION. The implementation parameters of rules R7 to R9: the configuration record, what makes it well
formed, the constants derived from it, and the constants the spec leaves open (they have no body, so that
nothing can be proved of their values). -/

namespace Sys2Proof

/-- Which pair of block functions a configuration carries (rule R9). State is plain data, so the configuration
names the pair instead of holding two functions (log entry 3). -/
inductive Cipher where
  /-- The black box of rule R9: any family of permutations of the 16-byte blocks, one for each key. -/
  | primitive
  /-- The toy cipher of the spec's test configuration TX (95_test_vectors.md section 0): bytewise exclusive or
  with the key, in both directions. -/
  | xor16
deriving DecidableEq, Repr, Inhabited

/-- The parameters of rule R7, as plain numbers, well formed or not. -/
structure Params where
  privateOffset      : Nat
  numPrivateCommands : Nat
  maxOptDataLength   : Nat
  maxNumOfBlocks     : Nat
  maxCallsignLen     : Nat
  cipher             : Cipher
deriving DecidableEq, Repr

/-- MAXN of rule R7: the longest encrypted section, in bytes. -/
def Params.maxN (p : Params) : Nat := 16 * p.maxNumOfBlocks

/-- RX_CAP of rule R7. -/
def Params.rxCap (p : Params) : Nat := p.maxCallsignLen + 1 + max p.maxOptDataLength p.maxN

/-- TX_CAP of rule R7: the same number as RX_CAP. -/
def Params.txCap (p : Params) : Nat := p.rxCap

/-- Rule R8. -/
def Params.wf (p : Params) : Bool :=
  decide (p.privateOffset ≤ 255 ∧ 1 ≤ p.maxNumOfBlocks ∧ 1 ≤ p.maxCallsignLen ∧ p.maxCallsignLen ≤ 255 ∧
    p.rxCap ≤ 1024)

/-- A well-formed configuration (rule R8). No other can be built: "the model refuses any other". The numbers
written after := are the smallest well-formed ones; they stand here only so that Lean accepts a constant of this
type without a value (Config.cfg), and nothing rests on them. -/
structure Cfg extends Params where
  privateOffset      := 0
  numPrivateCommands := 0
  maxOptDataLength   := 0
  maxNumOfBlocks     := 1
  maxCallsignLen     := 1
  cipher             := .primitive
  wf : toParams.wf = true := by decide
deriving DecidableEq, Repr, Inhabited

/-- The configuration with these parameters, or none where rule R8 does not hold (behaviour U6 of
93_implementation_defined.md). -/
def Cfg.ofParams (p : Params) : Option Cfg :=
  if h : p.wf = true then some { toParams := p, wf := h } else none

/-- The configuration of the machine that State.reset describes. Open (decision D2): a well-formed configuration
of which nothing else is known. -/
opaque Config.cfg : Cfg

/-- The AES primitive of rule R9: for each key a permutation of the blocks. AesEnc is the permutation, AesDec its
inverse, and the two inverse laws are all that is known of them. -/
opaque Config.aes : Block → (Block ≃ Block)

/-- Rule R152, behaviour U1: what a register read made while BUSY = 1 answers. A free value, a fresh one for each
number. -/
opaque Config.busyRead : Nat → Word

end Sys2Proof
end

