-- ==== Sys2Proof/Syntax.lean ====
section
/-! DEFINITION. The instructions of FCPE: one constructor for each row of spec/opcode_table.json. -/

namespace Sys2Proof

/-- The nine commands of rule R111, with the flag bits each allows, and the three function-id classes of
rule R103 (the table's rows of format FRAME_FID), with the function-id byte.

A command is what the Host writes to CMD. A FRAME row is what PARSE finds at index CSLEN of a received frame: the
byte selects how PARSE goes on from its stage 3. -/
inductive Instr where
  /-- NOP, rule R155. -/
  | nop
  /-- PARSE, rule R175. -/
  | parse
  /-- RELEASE, rule R188, with its REJ bit. -/
  | release (rej : Bool)
  /-- FRAMELEN, rule R249, with its ENC bit. -/
  | framelen (enc : Bool)
  /-- ENCODE, rule R250, with its ENC bit. -/
  | encode (enc : Bool)
  /-- TXCLEAR, rule R244. -/
  | txclear
  /-- PUSH8, rule R245. -/
  | push8
  /-- PUSH16, rule R246. -/
  | push16
  /-- PUSH32, rule R247. -/
  | push32
  /-- FRAME.PUBLIC: a frame whose function id f is below PRIVATE_OFFSET. -/
  | framePublic (f : Byte)
  /-- FRAME.PRIVATE: a frame whose function id f is in the closed private range. -/
  | framePrivate (f : Byte)
  /-- FRAME.INVALID: a frame whose function id f is above the private range. -/
  | frameInvalid (f : Byte)
deriving DecidableEq, Repr

/-- The two formats of spec/opcode_table.json: a command word (format CW, rule R110), or the function-id byte of a
frame (format FRAME_FID, rule R103). -/
inductive Code where
  | word (w : Word)
  | fid (f : Byte)
deriving DecidableEq, Repr

end Sys2Proof
end

