-- ==== Sys2Proof/Machine/State.lean ====
section
/-! DEFINITION. The state of FCPE as plain data (rule R20), the steps its agents take (rule R5), why a step can
stop, and the state after reset (rule R340). -/

namespace Sys2Proof.Machine

/-- The two states of the Decryption Gate (rule R210), held in FSTAT.MODE. -/
inductive GateState where
  /-- MODE = 0. -/
  | plaintext
  /-- MODE = 1. -/
  | encrypted
deriving DecidableEq, Repr

/-- The events of rule R52. -/
inductive Event where
  | rxAccepted (len : Half)
  | rxDropped (len : Half)
  | frameInvalid (code : Byte)
  | frameValid
deriving DecidableEq, Repr

/-- One step of an agent (rule R5), with what it brings to the block. -/
inductive AgentStep where
  /-- Host: RegRead(off), rule R140. -/
  | regRead (off : Half)
  /-- Host: RegWrite(off, v), rule R141. -/
  | regWrite (off : Half) (v : Word)
  /-- Radio: deliver(data), rule R170. -/
  | deliver (data : List Byte)
  /-- Engine: the completion step, rule R151. -/
  | engine
  /-- The platform asserts the reset input, rule R342. -/
  | reset
deriving DecidableEq, Repr

/-- What is around the block and is not FCPE state (log entry 1): the interleaving of the agents' steps that is still
to come, and the Host's side of the bus. -/
structure Env where
  /-- The agents' steps still to come, first one first (rule R78: one interleaving). When it is empty only the
  Engine is left to move (rule R355). -/
  pending : List AgentStep
  /-- What the last RegRead answered. -/
  rdata   : Word
  /-- How many unspecified values have been drawn (behaviour U1). -/
  draws   : Nat
deriving DecidableEq, Repr

/-- The machine: the configuration, the state of rule R20 and what is around it. -/
structure State where
  /-- The implementation parameters (rule R7); no step changes them. -/
  cfg          : Cfg
  /-- CTRL.RXEN (rule R23). -/
  rxen         : Bool
  /-- CTRL.KEYEN. -/
  keyen        : Bool
  /-- CTRL.IE_RX. -/
  ieRx         : Bool
  /-- CTRL.IE_DONE. -/
  ieDone       : Bool
  /-- CMDLATCH (rule R24). -/
  cmdlatch     : Word
  /-- STATUS.BUSY (rule R25). -/
  busy         : Bool
  /-- STATUS.DONE. -/
  done         : Bool
  /-- STATUS.CMDERR. -/
  cmderr       : Bool
  /-- STATUS.HAZARD. -/
  hazard       : Bool
  /-- STATUS.DATA_RECEIVED. -/
  dataReceived : Bool
  /-- STATUS.TXVALID. -/
  txvalid      : Bool
  /-- STATUS.CERR. -/
  cerr         : Byte
  /-- FSTAT.PARSED (rule R26). -/
  parsed       : Bool
  /-- FSTAT.PARSE_OK. -/
  parseOk      : Bool
  /-- FSTAT.COUNTED. -/
  counted      : Bool
  /-- FSTAT.MODE. -/
  mode         : GateState
  /-- FSTAT.FIDVALID. -/
  fidvalid     : Bool
  /-- FSTAT.OPTVALID. -/
  optvalid     : Bool
  /-- FSTAT.FERR. -/
  ferr         : Byte
  /-- OPERAND (rule R27). -/
  operand      : Word
  /-- CSLEN (rule R30). -/
  cslen        : Byte
  /-- CALLSIGN[0 .. MAX_CALLSIGN_LEN) (rule R31). -/
  callsign     : List Byte
  /-- KEY[0 .. 16) (rule R32). -/
  key          : Block
  /-- RXBUF, the stored bytes (rule R33). -/
  rxbuf        : List Byte
  /-- RXLEN (rule R33). -/
  rxlen        : Half
  /-- FID (rule R34). -/
  fid          : Byte
  /-- OPTLEN (rule R35). -/
  optlen       : Half
  /-- OPTDATA (rule R36). -/
  optdata      : List Byte
  /-- RESPID (rule R40). -/
  respid       : Byte
  /-- TXOD (rule R41). -/
  txod         : List Byte
  /-- TXODLEN (rule R41). -/
  txodlen      : Half
  /-- FLEN (rule R42). -/
  flen         : Half
  /-- TXBUF (rule R43). -/
  txbuf        : List Byte
  /-- TXLEN (rule R43). -/
  txlen        : Half
  /-- AESCNT (rule R44). -/
  aescnt       : Word
  /-- EVLOG, the oldest event first (rule R52). -/
  evlog        : List Event
  /-- Not FCPE state: what is around the block. -/
  env          : Env
deriving DecidableEq, Repr

/-- Why a step stops with a fault. FCPE has none: "Nothing in FCPE is treated as fault or stuck"
(93_implementation_defined.md), so the type has no constructor. -/
inductive Fault where
deriving DecidableEq, Repr

/-- Why a step is refused. -/
inductive Refusal where
  /-- An instruction that has no meaning here yet. Raised by exec only; safe. No arm raises it now. -/
  | notModelled (mnemonic : String)
  /-- A bus access at a byte offset that is not a multiple of 4 (rule R75, behaviour U5: "refuse: not expressible
  on the bus"). Raised by the Host's bus steps only, never by an instruction; safe. -/
  | misalignedOffset (off : Half)
deriving DecidableEq, Repr

/-- The state after reset of a block with this configuration, with these surroundings: the table of rule R340. -/
def State.resetWith (cfg : Cfg) (env : Env) : State where
  cfg          := cfg
  rxen         := false
  keyen        := false
  ieRx         := false
  ieDone       := false
  cmdlatch     := 0
  busy         := false
  done         := false
  cmderr       := false
  hazard       := false
  dataReceived := false
  txvalid      := false
  cerr         := 0
  parsed       := false
  parseOk      := false
  counted      := false
  mode         := .plaintext
  fidvalid     := false
  optvalid     := false
  ferr         := 0
  operand      := 0
  cslen        := 0
  callsign     := List.replicate cfg.maxCallsignLen 0
  key          := Block.zero
  rxbuf        := []
  rxlen        := 0
  fid          := 0
  optlen       := 0
  optdata      := []
  respid       := 0
  txod         := []
  txodlen      := 0
  flen         := 0
  txbuf        := []
  txlen        := 0
  aescnt       := 0
  evlog        := []
  env          := env

/-- The surroundings before any agent has moved: no step planned, nothing read, nothing drawn. -/
def Env.quiet : Env := { pending := [], rdata := 0, draws := 0 }

/-- The machine right after reset: rule R340, with the open configuration. -/
def State.reset : State := State.resetWith Config.cfg Env.quiet

/-- The same block with other steps still to come. -/
def State.withPending (steps : List AgentStep) (s : State) : State :=
  { s with env := { s.env with pending := steps } }

end Sys2Proof.Machine
end

