-- ==== Sys2Proof/Machine/Operands.lean ====
section
/-! DEFINITION. What the commands read (rules R10, R72, R113): bytes of words, bytes and slices of buffers, and the
lengths C, L, E and N that the rules of 41, 42 and 43 are written in. -/

namespace Sys2Proof.Machine

/-- v[8j+7 : 8j], byte j of a word (rule R72). -/
def wordByte (v : Word) (j : Nat) : Byte := v.extractLsb' (8 * j) 8

/-- The n low bytes of a word, least significant byte first (rule R72). -/
def lowBytes (n : Nat) (v : Word) : List Byte := (List.range n).map (wordByte v)

/-- BUF[i] of rule R11; 0 outside the stored bytes (rule R85). -/
def bufByte (buf : List Byte) (i : Nat) : Byte := buf.getD i 0

/-- B[a .. b) of rule R10, empty when b is not above a. -/
def slice (buf : List Byte) (a b : Nat) : List Byte := (buf.drop a).take (b - a)

/-- ceil16 of rule R11: the least multiple of 16 not below n. -/
def ceil16 (n : Nat) : Nat := 16 * ((n + 15) / 16)

/-- C of 41_receive_parse.md: CSLEN as a number. -/
def State.csLen (s : State) : Nat := s.cslen.toNat

/-- L of 41_receive_parse.md: RXLEN as a number. -/
def State.frameLen (s : State) : Nat := s.rxlen.toNat

/-- E of 41_receive_parse.md: L - C - 1. It is read after stage 2 only, where the difference is not negative. -/
def State.sectionLen (s : State) : Nat := s.frameLen - s.csLen - 1

/-- N of 43_response_encode.md: TXODLEN as a number. -/
def State.respLen (s : State) : Nat := s.txodlen.toNat

/-- The legal values of CSLEN (rule R30): 1 .. MAX_CALLSIGN_LEN. -/
def State.csLegal (s : State) : Bool := decide (1 ≤ s.csLen ∧ s.csLen ≤ s.cfg.maxCallsignLen)

/-- B[C], "the byte immediately after the callsign" (rule R179). -/
def State.fidByte (s : State) : Byte := bufByte s.rxbuf s.csLen

/-- S = B[C+1 .. L) of 42_decrypt_gate.md, the optional-data region of the held frame (rule R100). -/
def State.region (s : State) : List Byte := slice s.rxbuf (s.csLen + 1) (s.csLen + 1 + s.sectionLen)

/-- OPERAND[7:0], the reason code RELEASE reads (rule R190). -/
def State.reasonCode (s : State) : Byte := wordByte s.operand 0

end Sys2Proof.Machine
end

