-- ==== Sys2Proof/Machine/Cipher.lean ====
section
/-! DEFINITION. The AES primitive as the configuration gives it (rule R9), and its use on a section of 16-byte blocks,
each block on its own (rules R101, R219, R255: "ECB mode, no chaining"). -/

namespace Sys2Proof.Machine

/-- The toy cipher of configuration TX: b xor k, byte by byte. -/
def xorBlock (k b : Block) : Block :=
  ⟨List.zipWith (· ^^^ ·) b.1 k.1, by simp [b.2, k.2]⟩

/-- AesEnc(k, b) of rule R9. -/
def aesEnc (c : Cipher) (k b : Block) : Block :=
  match c with
  | .primitive => Config.aes k b
  | .xor16 => xorBlock k b

/-- AesDec(k, b) of rule R9. -/
def aesDec (c : Cipher) (k b : Block) : Block :=
  match c with
  | .primitive => (Config.aes k).symm b
  | .xor16 => xorBlock k b

/-- Sixteen bytes as a block. Every rule hands over exactly 16; a shorter list is filled with 0x00. -/
def toBlock (bytes : List Byte) : Block :=
  ⟨(bytes ++ List.replicate 16 0).take 16, by simp⟩

/-- S_k of 42_decrypt_gate.md: bytes 16k .. 16k+15 of a section. -/
def blockAt (bytes : List Byte) (k : Nat) : Block := toBlock (slice bytes (16 * k) (16 * k + 16))

/-- The first n blocks of a section, each through f, joined again. -/
def mapBlocks (f : Block → Block) (n : Nat) (bytes : List Byte) : List Byte :=
  (List.range n).flatMap fun k => (f (blockAt bytes k)).1

/-- The first n decrypted blocks of the held frame's section: the scratch D (rules R50, R214, R219). -/
def State.decrypted (s : State) (n : Nat) : List Byte :=
  mapBlocks (aesDec s.cfg.cipher s.key) n s.region

/-- N = D[0], the decrypted length byte (rule R214). -/
def State.lengthByte (s : State) : Nat := (bufByte (s.decrypted 1) 0).toNat

/-- The number of blocks that hold the length byte and n data bytes: ceil16(1 + n) / 16 (rules R219, R255). -/
def blocksFor (n : Nat) : Nat := ceil16 (1 + n) / 16

/-- P of rule R255 for the response optional data: length byte, data, zero padding (rule R102). -/
def State.plainSection (s : State) : List Byte :=
  BitVec.ofNat 8 s.respLen :: (s.txod.take s.respLen ++
    List.replicate (16 * blocksFor s.respLen - 1 - s.respLen) 0)

/-- encrypted_section() of rule R255. -/
def State.encryptedSection (s : State) : List Byte :=
  mapBlocks (aesEnc s.cfg.cipher s.key) (blocksFor s.respLen) s.plainSection

end Sys2Proof.Machine
end

