-- ==== Sys2Proof/Machine/Flags.lean ====
section
/-! DEFINITION. The codes of rules R301 and R310, the words of the flag registers (rules R23, R25, R26, R140) and the
interrupt outputs (rule R51). FCPE has no arithmetic flags (rule R28). -/

namespace Sys2Proof.Machine

/-- The frame errors PARSE can find (rule R301). -/
inductive FrameError where
  | callsignMismatch
  | invalidLength
  | incorrectPassword
  | decryptionFailed
  | unknownFunctionId
deriving DecidableEq, Repr

/-- The numbers of rule R301. -/
def ferrCode : FrameError → Byte
  | .callsignMismatch => 0x01
  | .invalidLength => 0x02
  | .incorrectPassword => 0x03
  | .decryptionFailed => 0x04
  | .unknownFunctionId => 0x05

/-- FERR_OPTDATA_LENGTH_MISMATCH (rule R301): never raised by PARSE, a reason the host may pass to RELEASE. -/
def ferrOptDataLengthMismatch : Byte := 0x06

/-- The outcomes of a command as STATUS.CERR records them (rule R310). -/
inductive CmdError where
  | none
  | illegalCmd
  | config
  | noFrame
  | txOverflow
  | invalidLength
  | silenced
deriving DecidableEq, Repr

/-- The numbers of rule R310. -/
def cerrCode : CmdError → Byte
  | .none => 0x00
  | .illegalCmd => 0x01
  | .config => 0x02
  | .noFrame => 0x03
  | .txOverflow => 0x04
  | .invalidLength => 0x05
  | .silenced => 0x06

/-- One flag at one bit of a register word. -/
def flagBit (b : Bool) (i : Nat) : Word := (BitVec.ofBool b).setWidth 32 <<< i

/-- FSTAT.MODE as a bit (rule R26). -/
def modeBit : GateState → Bool
  | .plaintext => false
  | .encrypted => true

/-- CTRL as a word (rule R140). -/
def ctrlWord (s : State) : Word :=
  flagBit s.rxen 0 ||| flagBit s.keyen 1 ||| flagBit s.ieRx 2 ||| flagBit s.ieDone 3

/-- STATUS as a word (rule R140). -/
def statusWord (s : State) : Word :=
  flagBit s.busy 0 ||| flagBit s.done 1 ||| flagBit s.cmderr 2 ||| flagBit s.hazard 3 |||
    flagBit s.dataReceived 4 ||| flagBit s.txvalid 5 ||| (s.cerr.setWidth 32 <<< 8)

/-- FSTAT as a word (rule R140). -/
def fstatWord (s : State) : Word :=
  flagBit s.parsed 0 ||| flagBit s.parseOk 1 ||| flagBit s.counted 2 ||| flagBit (modeBit s.mode) 3 |||
    flagBit s.fidvalid 4 ||| flagBit s.optvalid 5 ||| (s.ferr.setWidth 32 <<< 8)

/-- The output irq_rx (rule R51). -/
def irqRx (s : State) : Bool := s.ieRx && s.dataReceived

/-- The output irq_done (rule R51). -/
def irqDone (s : State) : Bool := s.ieDone && s.done

/-- ENCODE is silenced (rule R252): the held frame was parsed and rejected and is not yet released. -/
def silenced (s : State) : Bool := s.dataReceived && s.parsed && !s.parseOk

end Sys2Proof.Machine
end

