-- ==== Sys2Proof/Machine/Ops.lean ====
section
/-! DEFINITION. The operations the commands share: completion and refusal of a command (rules R151, R311), rejection of
a frame and the return from it (rules R312, R191, R314), events, the AES counter, the transmit buffer, and the
canonical form of the byte buffers. -/

namespace Sys2Proof.Machine

/-- emit E (rule R11). -/
def emit (e : Event) (s : State) : State := { s with evlog := s.evlog ++ [e] }

/-- The completion step's own effect (rule R151): CERR <- code, CMDERR <- (code != 0), BUSY <- 0, DONE <- 1. -/
def complete (code : CmdError) (s : State) : State :=
  { s with cerr := cerrCode code, cmderr := cerrCode code != 0, busy := false, done := true }

/-- refuse(code) (rule R311): the command ends with the code and none of its effects. -/
def refuse (code : CmdError) (s : State) : State := complete code s

/-- reject(code), taking a frame error (rule R312). The scratch D was never state. As in rule R312, TXVALID is not written
(log entry 8). -/
def reject (e : FrameError) (s : State) : State :=
  emit (.frameInvalid (ferrCode e))
    { s with parsed := true, parseOk := false, ferr := ferrCode e, optvalid := false, optdata := [], counted := true }

/-- The end of a PARSE that found no error (rule R182). -/
def accept (s : State) : State := { s with optvalid := true, parsed := true, parseOk := true, ferr := 0 }

/-- "Clear the frame state" (rule R191): the return from a frame error (rule R314), and the end of every frame. -/
def clearFrame (s : State) : State :=
  { s with
    dataReceived := false
    parsed := false
    parseOk := false
    counted := false
    mode := .plaintext
    fidvalid := false
    optvalid := false
    ferr := 0
    fid := 0
    optlen := 0
    optdata := []
    rxlen := 0
    rxbuf := [] }

/-- FID <- f, FIDVALID <- 1 (rule R179). -/
def latchFid (f : Byte) (s : State) : State := { s with fid := f, fidvalid := true }

/-- MODE <- m (rule R180). -/
def setMode (m : GateState) (s : State) : State := { s with mode := m }

/-- AESCNT after n invocations of the AES primitive, modulo 2^32 (rule R44). -/
def countAes (n : Nat) (s : State) : State := { s with aescnt := s.aescnt + BitVec.ofNat 32 n }

/-- TXVALID <- 0, TXBUF <- empty, TXLEN <- 0 (rules R244, R248, R257). -/
def dropTx (s : State) : State := { s with txvalid := false, txbuf := [], txlen := 0 }

/-- length(enc) (rule R254): the length of the frame ENCODE would build, or the code it refuses with. -/
def responseLength (enc : Bool) (s : State) : Except CmdError Nat :=
  if !s.csLegal then .error .config
  else if !enc then .ok (s.csLen + 1 + s.respLen)
  else if 255 < s.respLen then .error .invalidLength
  else if s.cfg.maxN < 1 + s.respLen then .error .invalidLength
  else .ok (s.csLen + 1 + ceil16 (1 + s.respLen))

/-- The canonical form of the storage behind the buffer windows (rules R31, R33, R36, R41, R43, R85): a buffer holds
exactly the bytes its window can show, so that equal contents are equal data. FCPE has no other memory (rule R70). -/
def Memory.wf (s : State) : Bool :=
  decide (s.callsign.length = s.cfg.maxCallsignLen) &&
  decide (s.rxbuf.length = min s.frameLen s.cfg.rxCap) &&
  (if s.optvalid then
    decide (s.optdata.length = s.optlen.toNat ∧ s.optdata.length ≤ s.cfg.maxOptDataLength)
   else decide (s.optdata = [])) &&
  decide (s.txod.length = s.respLen ∧ s.txod.length ≤ s.cfg.maxOptDataLength) &&
  (if s.txvalid then decide (s.txbuf.length = s.txlen.toNat ∧ s.txbuf.length ≤ s.cfg.txCap)
   else decide (s.txbuf = [] ∧ s.txlen = 0))

end Sys2Proof.Machine
end

