-- ==== Sys2Proof/Machine/Bus.lean ====
section
/-! DEFINITION. The Host's bus: the register map (rules R83, R84, R86), RegRead (rule R140) and RegWrite (rule R141). -/

namespace Sys2Proof.Machine

/-- What stands at an offset of the register space (rule R83). -/
inductive Reg where
  | ctrl
  | cmd
  | status
  | fstat
  | operand
  | cslen
  | rxlen
  | fid
  | optlen
  | aescnt
  | respid
  | txodlen
  | txlen
  | flen
  /-- KEY0 .. KEY3. -/
  | key (m : Nat)
  | callsign (i : Nat)
  | rxbuf (i : Nat)
  | optdata (i : Nat)
  | txod (i : Nat)
  | txbuf (i : Nat)
  /-- Every other offset (rule R86). -/
  | unmapped
deriving DecidableEq, Repr

/-- Element i of a buffer window at this base and of this capacity, or nothing there (rules R84, R86). -/
def windowReg (base cap : Nat) (mk : Nat → Reg) (off : Nat) : Reg :=
  if (off - base) / 4 < cap then mk ((off - base) / 4) else .unmapped

/-- The registers below 0x1000 (rule R83). -/
def lowReg (off : Nat) : Reg :=
  match off with
  | 0x0000 => .ctrl
  | 0x0004 => .cmd
  | 0x0008 => .status
  | 0x000C => .fstat
  | 0x0010 => .operand
  | 0x0014 => .cslen
  | 0x0018 => .rxlen
  | 0x001C => .fid
  | 0x0020 => .optlen
  | 0x0024 => .aescnt
  | 0x0028 => .respid
  | 0x002C => .txodlen
  | 0x0030 => .txlen
  | 0x0034 => .flen
  | 0x0040 => .key 0
  | 0x0044 => .key 1
  | 0x0048 => .key 2
  | 0x004C => .key 3
  | _ => .unmapped

/-- The register map of rule R83. -/
def regAt (cfg : Cfg) (off : Half) : Reg :=
  match off.toNat / 0x1000 with
  | 0 => lowReg off.toNat
  | 1 => windowReg 0x1000 cfg.maxCallsignLen .callsign off.toNat
  | 2 => windowReg 0x2000 cfg.rxCap .rxbuf off.toNat
  | 3 => windowReg 0x3000 cfg.maxOptDataLength .optdata off.toNat
  | 4 => windowReg 0x4000 cfg.maxOptDataLength .txod off.toNat
  | 5 => windowReg 0x5000 cfg.txCap .txbuf off.toNat
  | _ => .unmapped

/-- The offset of a register (rule R83), for programs (rule R120). -/
def offsetOf : Reg → Half
  | .ctrl => 0x0000
  | .cmd => 0x0004
  | .status => 0x0008
  | .fstat => 0x000C
  | .operand => 0x0010
  | .cslen => 0x0014
  | .rxlen => 0x0018
  | .fid => 0x001C
  | .optlen => 0x0020
  | .aescnt => 0x0024
  | .respid => 0x0028
  | .txodlen => 0x002C
  | .txlen => 0x0030
  | .flen => 0x0034
  | .key m => BitVec.ofNat 16 (0x0040 + 4 * m)
  | .callsign i => BitVec.ofNat 16 (0x1000 + 4 * i)
  | .rxbuf i => BitVec.ofNat 16 (0x2000 + 4 * i)
  | .optdata i => BitVec.ofNat 16 (0x3000 + 4 * i)
  | .txod i => BitVec.ofNat 16 (0x4000 + 4 * i)
  | .txbuf i => BitVec.ofNat 16 (0x5000 + 4 * i)
  | .unmapped => 0x0038

/-- A buffer element inside the valid extent, 0 outside it (rule R85). -/
def windowWord (valid : Bool) (buf : List Byte) (i : Nat) : Word :=
  if valid then (bufByte buf i).setWidth 32 else 0

/-- The value RegRead answers with while BUSY = 0 (rule R140). -/
def idleRead (s : State) : Reg → Word
  | .ctrl => ctrlWord s
  | .cmd => 0
  | .status => statusWord s
  | .fstat => fstatWord s
  | .operand => s.operand
  | .cslen => s.cslen.setWidth 32
  | .rxlen => s.rxlen.setWidth 32
  | .fid => s.fid.setWidth 32
  | .optlen => s.optlen.setWidth 32
  | .aescnt => s.aescnt
  | .respid => s.respid.setWidth 32
  | .txodlen => s.txodlen.setWidth 32
  | .txlen => s.txlen.setWidth 32
  | .flen => s.flen.setWidth 32
  | .key _ => 0
  | .callsign i => (bufByte s.callsign i).setWidth 32
  | .rxbuf i => windowWord (s.dataReceived && decide (i < min s.frameLen s.cfg.rxCap)) s.rxbuf i
  | .optdata i => windowWord (s.optvalid && decide (i < s.optlen.toNat)) s.optdata i
  | .txod i => windowWord (decide (i < s.respLen)) s.txod i
  | .txbuf i => windowWord (s.txvalid && decide (i < s.txlen.toNat)) s.txbuf i
  | .unmapped => 0

/-- The Host receives the value v. -/
def answer (v : Word) (s : State) : State := { s with env := { s.env with rdata := v } }

/-- The Host receives an unspecified value (rule R152, behaviour U1): the next free value. -/
def answerFree (s : State) : State :=
  { s with env := { s.env with rdata := Config.busyRead s.env.draws, draws := s.env.draws + 1 } }

/-- RegRead(off) (rule R140): while BUSY = 1 only STATUS and CTRL are exact. -/
def regRead (off : Half) (s : State) : State :=
  match regAt s.cfg off with
  | .status => answer (statusWord s) s
  | .ctrl => answer (ctrlWord s) s
  | r => if s.busy then answerFree s else answer (idleRead s r) s

/-- issue(w) (rule R150). -/
def issue (w : Word) (s : State) : State := { s with cmdlatch := w, busy := true, done := false }

/-- KEY[4m + j] <- v[8j+7 : 8j] for j = 0 .. 3 (rules R32, R145). -/
def setKeyWord (m : Nat) (v : Word) (k : Block) : Block :=
  ⟨(((k.1.set (4 * m) (wordByte v 0)).set (4 * m + 1) (wordByte v 1)).set (4 * m + 2) (wordByte v 2)).set
      (4 * m + 3) (wordByte v 3), by simp [k.2]⟩

/-- What a write does while BUSY = 0 (rules R141 to R146). -/
def idleWrite (r : Reg) (v : Word) (s : State) : State :=
  match r with
  | .ctrl => { s with rxen := v.getLsbD 0, keyen := v.getLsbD 1, ieRx := v.getLsbD 2, ieDone := v.getLsbD 3 }
  | .cmd => issue v s
  | .operand => { s with operand := v }
  | .cslen => { s with cslen := wordByte v 0 }
  | .respid => { s with respid := wordByte v 0 }
  | .key m => { s with key := setKeyWord m v s.key }
  | .callsign i => { s with callsign := s.callsign.set i (wordByte v 0) }
  | .status => s
  | .fstat => s
  | .rxlen => s
  | .fid => s
  | .optlen => s
  | .aescnt => s
  | .txodlen => s
  | .txlen => s
  | .flen => s
  | .rxbuf _ => s
  | .optdata _ => s
  | .txod _ => s
  | .txbuf _ => s
  | .unmapped => s

/-- RegWrite(off, v) (rule R141): while BUSY = 1 the write only sets HAZARD (rule R350). -/
def regWrite (off : Half) (v : Word) (s : State) : State :=
  if s.busy then { s with hazard := true } else idleWrite (regAt s.cfg off) v s

/-- A byte offset the bus can carry: a multiple of 4 (rule R75). -/
def aligned (off : Half) : Bool := decide (off.toNat % 4 = 0)

end Sys2Proof.Machine
end

