-- ==== Sys2Proof/Machine/Encoder.lean ====
section
/-! DEFINITION. The response family (43_response_encode.md): TXCLEAR, the three PUSH commands, FRAMELEN and ENCODE. -/

namespace Sys2Proof.Machine

/-- TXCLEAR (rule R244). -/
def execTxclear (s : State) : Host.Outcome State Fault Refusal :=
  .next (complete .none (dropTx { s with txod := [], txodlen := 0 }))

/-- push(n), the common body of the PUSH commands (rule R248). -/
def push (n : Nat) (s : State) : State :=
  if s.cfg.maxOptDataLength < s.respLen + n then refuse .txOverflow s
  else
    complete .none
      (dropTx { s with
        txod := s.txod.take s.respLen ++ lowBytes n s.operand
        txodlen := s.txodlen + BitVec.ofNat 16 n })

/-- PUSH8 (rule R245). -/
def execPush8 (s : State) : Host.Outcome State Fault Refusal := .next (push 1 s)

/-- PUSH16 (rule R246). -/
def execPush16 (s : State) : Host.Outcome State Fault Refusal := .next (push 2 s)

/-- PUSH32 (rule R247). -/
def execPush32 (s : State) : Host.Outcome State Fault Refusal := .next (push 4 s)

/-- FRAMELEN (rule R249). -/
def execFramelen (enc : Bool) (s : State) : Host.Outcome State Fault Refusal :=
  .next
    (match responseLength enc s with
     | .error code => refuse code s
     | .ok n => complete .none { s with flen := BitVec.ofNat 16 n })

/-- H of rule R250: the callsign and the response id. -/
def State.responseHeader (s : State) : List Byte := s.callsign.take s.csLen ++ [s.respid]

/-- What ENCODE puts after the header (rules R250, R255). -/
def State.responseBody (enc : Bool) (s : State) : List Byte :=
  if enc then s.encryptedSection else s.txod.take s.respLen

/-- ENCODE when no test refuses it: the frame of length n is written (rules R250, R255, R256). -/
def writeResponse (enc : Bool) (n : Nat) (s : State) : State :=
  { countAes (if enc then blocksFor s.respLen else 0) s with
    txbuf := s.responseHeader ++ s.responseBody enc
    txlen := BitVec.ofNat 16 n
    txvalid := true }

/-- ENCODE (rule R250); a refused one also clears the transmit frame (rule R257). -/
def execEncode (enc : Bool) (s : State) : Host.Outcome State Fault Refusal :=
  .next
    (if !s.csLegal then refuse .config (dropTx s)
     else if silenced s then refuse .silenced (dropTx s)
     else if enc && !s.keyen then refuse .config (dropTx s)
     else match responseLength enc s with
       | .error code => refuse code (dropTx s)
       | .ok n => complete .none (writeResponse enc n s))

end Sys2Proof.Machine
end

