-- ==== Sys2Proof/Machine/Nop.lean ====
section
/-! DEFINITION. The host-bus family's one command: NOP. -/

namespace Sys2Proof.Machine

/-- NOP (rule R155). -/
def execNop (s : State) : Host.Outcome State Fault Refusal := .next (complete .none s)

end Sys2Proof.Machine
end

