-- ==== Sys2Proof/WellFormed.lean ====
section
/-! DEFINITION. Which terms of Instr are instructions of a machine with a given configuration. -/

namespace Sys2Proof

/-- The condition of a row of spec/opcode_table.json. A command's constructor holds only the flags rule R111 allows
it, so every command is well formed; a FRAME row holds a byte of its own class (rule R103, the sums in the
naturals). -/
def Instr.wf (cfg : Cfg) : Instr → Bool
  | .nop => true
  | .parse => true
  | .release _ => true
  | .framelen _ => true
  | .encode _ => true
  | .txclear => true
  | .push8 => true
  | .push16 => true
  | .push32 => true
  | .framePublic f => decide (f.toNat < cfg.privateOffset)
  | .framePrivate f =>
    decide (cfg.privateOffset ≤ f.toNat ∧ f.toNat ≤ cfg.privateOffset + cfg.numPrivateCommands)
  | .frameInvalid f => decide (cfg.privateOffset + cfg.numPrivateCommands < f.toNat)

end Sys2Proof
end

