-- ==== Sys2Proof/Decode.lean ====
section
/-! DEFINITION. The decoder of rules R103 and R110 to R112, total on every word and every byte and rejecting by
name, and the encoder of rules R110 and R111. -/

namespace Sys2Proof

/-- Why a code is no instruction (rule R112). -/
inductive DecodeError where
  /-- A bit of RSV (bits 31:10) is 1. -/
  | reservedBits
  /-- OPC is in 0x09..0xFF. -/
  | unknownOpcode (opc : Byte)
  /-- ENC = 1 on an operation other than FRAMELEN and ENCODE. -/
  | encNotAllowed (opc : Byte)
  /-- REJ = 1 on an operation other than RELEASE. -/
  | rejNotAllowed (opc : Byte)
deriving DecidableEq, Repr

/-- What the decoder answers. -/
inductive Decoded where
  | instr (i : Instr)
  | illegal (e : DecodeError)
deriving DecidableEq, Repr

/-- OPC, bits 7:0 of a command word (rule R110). -/
def opcField (w : Word) : Byte := w.extractLsb' 0 8

/-- ENC, bit 8 (rule R110). -/
def encField (w : Word) : Bool := w.getLsbD 8

/-- REJ, bit 9 (rule R110). -/
def rejField (w : Word) : Bool := w.getLsbD 9

/-- RSV, bits 31:10 (rule R110). -/
def rsvField (w : Word) : BitVec 22 := w.extractLsb' 10 22

/-- The decoder of command words: rules R110 to R112. -/
def decodeWord (w : Word) : Decoded :=
  let opc := opcField w
  let enc := encField w
  let rej := rejField w
  if rsvField w ≠ 0 then .illegal .reservedBits
  else if 0x08 < opc.toNat then .illegal (.unknownOpcode opc)
  else if enc && opc != 0x03 && opc != 0x04 then .illegal (.encNotAllowed opc)
  else if rej && opc != 0x02 then .illegal (.rejNotAllowed opc)
  else match opc.toNat with
    | 0x00 => .instr .nop
    | 0x01 => .instr .parse
    | 0x02 => .instr (.release rej)
    | 0x03 => .instr (.framelen enc)
    | 0x04 => .instr (.encode enc)
    | 0x05 => .instr .txclear
    | 0x06 => .instr .push8
    | 0x07 => .instr .push16
    | 0x08 => .instr .push32
    | _ => .illegal (.unknownOpcode opc)

/-- The partition of the function ids (rules R103, R180): unsigned, in the naturals, both ends of the private
range included. -/
def decodeFid (cfg : Cfg) (f : Byte) : Instr :=
  if f.toNat < cfg.privateOffset then .framePublic f
  else if f.toNat ≤ cfg.privateOffset + cfg.numPrivateCommands then .framePrivate f
  else .frameInvalid f

/-- The decoder of both formats. -/
def decode (cfg : Cfg) : Code → Decoded
  | .word w => decodeWord w
  | .fid f => .instr (decodeFid cfg f)

/-- A command word from its fields (rule R110), RSV = 0. -/
def commandWord (opc : Byte) (enc rej : Bool) : Word :=
  (0#22 ++ BitVec.ofBool rej ++ BitVec.ofBool enc ++ opc : BitVec 32)

/-- The encoder: rule R111 for the commands, the byte itself for the FRAME rows. -/
def encode : Instr → Code
  | .nop => .word (commandWord 0x00 false false)
  | .parse => .word (commandWord 0x01 false false)
  | .release rej => .word (commandWord 0x02 false rej)
  | .framelen enc => .word (commandWord 0x03 enc false)
  | .encode enc => .word (commandWord 0x04 enc false)
  | .txclear => .word (commandWord 0x05 false false)
  | .push8 => .word (commandWord 0x06 false false)
  | .push16 => .word (commandWord 0x07 false false)
  | .push32 => .word (commandWord 0x08 false false)
  | .framePublic f => .fid f
  | .framePrivate f => .fid f
  | .frameInvalid f => .fid f

/-- The code whose bits are w, numbered as spec/opcode_table.json numbers them: a command word has 32 bits, the
function-id byte of a FRAME row has 8. -/
def codeOfBits (nbits w : Nat) : Option Code :=
  if nbits = 32 ∧ w < 2 ^ 32 then some (.word (BitVec.ofNat 32 w))
  else if nbits = 8 ∧ w < 2 ^ 8 then some (.fid (BitVec.ofNat 8 w))
  else none

/-- What the decoder of the machine of State.reset gives for the bits w; none where it refuses. -/
def decodeTableWord (nbits w : Nat) : Option Instr :=
  match codeOfBits nbits w with
  | none => none
  | some c =>
    match decode Config.cfg c with
    | .instr i => some i
    | .illegal _ => none

/-! The words of rule R111, each written out from the rule's table. -/

theorem decodes_nop : decodeWord 0x00000000 = .instr .nop := by decide
theorem decodes_parse : decodeWord 0x00000001 = .instr .parse := by decide
theorem decodes_release : decodeWord 0x00000002 = .instr (.release false) := by decide
theorem decodes_release_rej : decodeWord 0x00000202 = .instr (.release true) := by decide
theorem decodes_framelen : decodeWord 0x00000003 = .instr (.framelen false) := by decide
theorem decodes_framelen_enc : decodeWord 0x00000103 = .instr (.framelen true) := by decide
theorem decodes_encode : decodeWord 0x00000004 = .instr (.encode false) := by decide
theorem decodes_encode_enc : decodeWord 0x00000104 = .instr (.encode true) := by decide
theorem decodes_txclear : decodeWord 0x00000005 = .instr .txclear := by decide
theorem decodes_push8 : decodeWord 0x00000006 = .instr .push8 := by decide
theorem decodes_push16 : decodeWord 0x00000007 = .instr .push16 := by decide
theorem decodes_push32 : decodeWord 0x00000008 = .instr .push32 := by decide

/-! The example of rule R180: PRIVATE_OFFSET = 0x20 and NUM_PRIVATE_COMMANDS = 0x0A. -/

/-- A configuration with the two numbers of rule R180's example. -/
def exampleCfg : Cfg := { privateOffset := 0x20, numPrivateCommands := 0x0A }

theorem decodes_framePublic : decode exampleCfg (.fid 0x1F) = .instr (.framePublic 0x1F) := by decide
theorem decodes_framePrivate_low : decode exampleCfg (.fid 0x20) = .instr (.framePrivate 0x20) := by decide
theorem decodes_framePrivate_high : decode exampleCfg (.fid 0x2A) = .instr (.framePrivate 0x2A) := by decide
theorem decodes_frameInvalid : decode exampleCfg (.fid 0x2B) = .instr (.frameInvalid 0x2B) := by decide

end Sys2Proof
end

