-- ==== Sys2Proof/Machine/Parse.lean ====
section
/-! DEFINITION. The receive family: PARSE with its stages and the decryption gate (41_receive_parse.md, 42_decrypt_gate.md),
the three function-id classes it branches on, and RELEASE. -/

namespace Sys2Proof.Machine

/-- Stage 1 fails (rule R177): the frame is shorter than the C - 1 compared bytes, or one of them differs. C is at
least 1 here. -/
def callsignMismatch (s : State) : Bool :=
  decide (s.frameLen < s.csLen - 1) ||
    (List.range (s.csLen - 1)).any fun i => bufByte s.rxbuf i != bufByte s.callsign i

/-- Stage 2 fails (rule R178). -/
def structuralLengthBad (s : State) : Bool :=
  decide (s.frameLen < s.csLen + 1) || decide (s.cfg.rxCap < s.frameLen)

/-- Stage 4P (rule R181), and the successful end (rule R182). -/
def plaintextStage (s : State) : State :=
  if s.cfg.maxOptDataLength < s.sectionLen then reject .invalidLength s
  else accept { s with optlen := BitVec.ofNat 16 s.sectionLen, optdata := s.region }

/-- Stage 4E, the decryption gate: its steps a to g in the order of rule R220. -/
def gateStage (s : State) : State :=
  if !s.keyen then reject .decryptionFailed s
  else if s.sectionLen = 0 then reject .decryptionFailed s
  else if s.sectionLen % 16 ≠ 0 then reject .decryptionFailed s
  else if s.cfg.maxN < s.sectionLen then reject .decryptionFailed s
  else if s.cfg.maxN < s.lengthByte then
    reject .incorrectPassword { countAes 1 s with optlen := BitVec.ofNat 16 s.cfg.maxN }
  else if s.sectionLen < 1 + s.lengthByte then reject .decryptionFailed (countAes 1 s)
  else if s.cfg.maxOptDataLength < s.lengthByte then reject .invalidLength (countAes 1 s)
  else
    accept
      { countAes (blocksFor s.lengthByte) s with
        optlen := BitVec.ofNat 16 s.lengthByte
        optdata := slice (s.decrypted (blocksFor s.lengthByte)) 1 (1 + s.lengthByte) }

/-- PARSE from stage 3 on, for a frame with the public function id f (rules R179 to R181). -/
def publicFrame (f : Byte) (s : State) : State := plaintextStage (setMode .plaintext (latchFid f s))

/-- PARSE from stage 3 on, for a frame with the private function id f (rules R179, R180, R212 to R220). -/
def privateFrame (f : Byte) (s : State) : State := gateStage (setMode .encrypted (latchFid f s))

/-- PARSE from stage 3 on, for a frame with the invalid function id f (rules R179, R180). -/
def invalidFrame (f : Byte) (s : State) : State := reject .unknownFunctionId (latchFid f s)

/-- Stages 3 and 4 of PARSE, by the class of the function-id byte (rule R180). The decoder answers a FRAME row, so
the last arms are never met. -/
def classifiedFrame (i : Instr) (s : State) : State :=
  match i with
  | .framePublic f => publicFrame f s
  | .framePrivate f => privateFrame f s
  | .frameInvalid f => invalidFrame f s
  | .nop => s
  | .parse => s
  | .release _ => s
  | .framelen _ => s
  | .encode _ => s
  | .txclear => s
  | .push8 => s
  | .push16 => s
  | .push32 => s

/-- The stages of PARSE in order, the first failing check deciding (rule R176). -/
def judgeFrame (s : State) : State :=
  if callsignMismatch s then reject .callsignMismatch s
  else if structuralLengthBad s then reject .invalidLength s
  else classifiedFrame (decodeFid s.cfg s.fidByte) s

/-- PARSE (rule R175), with its refusals (rule R186). -/
def execParse (s : State) : Host.Outcome State Fault Refusal :=
  .next
    (if !s.dataReceived || s.parsed then refuse .noFrame s
     else if !s.csLegal then refuse .config s
     else complete .none (judgeFrame s))

/-- The event RELEASE emits for a frame not counted yet (rule R190). -/
def countFrame (rej : Bool) (s : State) : State :=
  if s.counted then s
  else if !rej && s.parseOk then emit .frameValid s
  else emit (.frameInvalid s.reasonCode) s

/-- RELEASE (rule R188). -/
def execRelease (rej : Bool) (s : State) : Host.Outcome State Fault Refusal :=
  .next
    (if !s.dataReceived then refuse .noFrame s
     else complete .none (clearFrame (countFrame rej s)))

/-- FRAME.PUBLIC (rules R103, R181): what the completion of PARSE does, from stage 3 on, with a held frame whose
function id is f, a public one. -/
def execFramePublic (f : Byte) (s : State) : Host.Outcome State Fault Refusal :=
  .next (complete .none (publicFrame f s))

/-- FRAME.PRIVATE (rules R103, R212 to R220): the same for a private function id. -/
def execFramePrivate (f : Byte) (s : State) : Host.Outcome State Fault Refusal :=
  .next (complete .none (privateFrame f s))

/-- FRAME.INVALID (rules R103, R180): the same for an invalid function id; the frame is rejected. -/
def execFrameInvalid (f : Byte) (s : State) : Host.Outcome State Fault Refusal :=
  .next (complete .none (invalidFrame f s))

end Sys2Proof.Machine
end

