-- ==== Sys2Proof/Machine/Dispatch.lean ====
section
/-! DEFINITION. One arm per constructor of Instr: the completion step of the Engine (rule R151) for each command, and what
PARSE goes on with for each function-id class. -/

namespace Sys2Proof.Machine

def exec (i : Instr) (s : State) : Host.Outcome State Fault Refusal :=
  match i with
  | .nop => Sys2Proof.Machine.execNop s
  | .parse => Sys2Proof.Machine.execParse s
  | .release rej => Sys2Proof.Machine.execRelease rej s
  | .framelen enc => Sys2Proof.Machine.execFramelen enc s
  | .encode enc => Sys2Proof.Machine.execEncode enc s
  | .txclear => Sys2Proof.Machine.execTxclear s
  | .push8 => Sys2Proof.Machine.execPush8 s
  | .push16 => Sys2Proof.Machine.execPush16 s
  | .push32 => Sys2Proof.Machine.execPush32 s
  | .framePublic f => Sys2Proof.Machine.execFramePublic f s
  | .framePrivate f => Sys2Proof.Machine.execFramePrivate f s
  | .frameInvalid f => Sys2Proof.Machine.execFrameInvalid f s

end Sys2Proof.Machine
end

