-- ==== Sys2Proof/Machine/Receive.lean ====
section
/-! DEFINITION. The receive port (rules R170 to R173): one delivery of the Radio. -/

namespace Sys2Proof.Machine

/-- len16 = min(len, 0xFFFF) (rule R170). -/
def len16 (data : List Byte) : Half := BitVec.ofNat 16 (min data.length 0xFFFF)

/-- The port is open (rule R171). -/
def portOpen (s : State) : Bool := s.rxen && !s.dataReceived && !s.busy

/-- deliver(data): accepted (rule R171) or dropped (rule R172). -/
def deliver (data : List Byte) (s : State) : State :=
  if portOpen s then
    emit (.rxAccepted (len16 data))
      { s with rxbuf := data.take s.cfg.rxCap, rxlen := len16 data, dataReceived := true }
  else emit (.rxDropped (len16 data)) s

end Sys2Proof.Machine
end

