-- ==== Sys2Proof/Machine/Agents.lean ====
section
/-! DEFINITION. One step of each agent (rule R5), and where the next instruction is fetched from. -/

namespace Sys2Proof.Machine

/-- The instruction the Engine is to complete: FCPE fetches nothing from a memory, it decodes CMDLATCH
(rules R22, R81, R151). -/
def fetch (s : State) : Decoded := decodeWord s.cmdlatch

/-- complete (rule R151): an illegal word is refused, a legal one is performed. -/
def engineComplete (s : State) : Host.Outcome State Fault Refusal :=
  match fetch s with
  | .instr i => exec i s
  | .illegal _ => .next (refuse .illegalCmd s)

/-- The Engine's turn: its one step is enabled exactly when BUSY = 1 (rule R151); otherwise the block is idle
(rule R327). -/
def engineTurn (s : State) : Host.Outcome State Fault Refusal :=
  if s.busy then engineComplete s else .next s

/-- A step of the Host on the bus, refused where the bus cannot carry the offset (rule R75, behaviour U5). -/
def onBus (off : Half) (s : State) : Host.Outcome State Fault Refusal :=
  if aligned off then .next s else .refused (.misalignedOffset off)

/-- One step of the agent whose turn it is. -/
def agentTurn (a : AgentStep) (s : State) : Host.Outcome State Fault Refusal :=
  match a with
  | .regRead off => onBus off (regRead off s)
  | .regWrite off v => onBus off (regWrite off v s)
  | .deliver data => .next (deliver data s)
  | .engine => engineTurn s
  | .reset => .next (State.resetWith s.cfg s.env)

/-- The steps still to come once the Engine moves next. -/
def engineFirst (steps : List AgentStep) : List AgentStep :=
  match steps with
  | [] => []
  | a :: rest => .engine :: a :: rest

/-- The word w latched as the command to complete, with the Engine next to move (rule R150). -/
def placeCommand (w : Word) (s : State) : State :=
  issue w (s.withPending (engineFirst s.env.pending))

/-- A callsign length PARSE accepts: the present one, or 1 where the present one is illegal. -/
def legalCslen (s : State) : Byte := if s.csLegal then s.cslen else 1

/-- The smallest frame that PARSE takes to its stage 3 with the function-id byte f: the callsign and f, held and not
yet parsed, with PARSE latched and the Engine next to move. -/
def placeFrame (f : Byte) (s : State) : State :=
  placeCommand 0x00000001
    { s with
      cslen := legalCslen s
      rxbuf := s.callsign.take (legalCslen s).toNat ++ [f]
      rxlen := BitVec.ofNat 16 ((legalCslen s).toNat + 1)
      dataReceived := true
      parsed := false }

end Sys2Proof.Machine
end

