-- ==== Sys2Proof/Machine/Step.lean ====
section
/-! DEFINITION. One step of the machine: the next agent's step, or the Engine's where no other agent is to move. -/

namespace Sys2Proof.Machine

/-- One atomic step of one agent (rule R78). The interleaving is data of the state; when it is used up only the Engine
moves (rule R355). -/
def step (s : State) : Host.Outcome State Fault Refusal :=
  match s.env.pending with
  | [] => engineTurn s
  | a :: rest => agentTurn a (s.withPending rest)

/-- The state with the instruction whose bits are w placed where the next step takes it from: a command word in
CMDLATCH, a function-id byte in a held frame that PARSE is about to judge. -/
def State.withFetchWord (s : State) (nbits w : Nat) : State :=
  match codeOfBits nbits w with
  | none => s
  | some (.word c) => placeCommand c s
  | some (.fid f) => placeFrame f s

end Sys2Proof.Machine
end

