-- ==== Sys2Proof/Safety.lean ====
section
/-! DEFINITION. What a safe state is: the invariants of rule R53, one definition for each clause, the canonical form of
the buffers, and the exactly-once rule of R190 as a reading of EVLOG. -/

namespace Sys2Proof.Machine

/-- Rule R53 (a). -/
abbrev State.BusyNotDone (s : State) : Prop := s.busy = true → s.done = false

/-- Rule R53 (b). -/
abbrev State.CmderrIsCerr (s : State) : Prop := s.cmderr = true ↔ s.cerr ≠ 0

/-- Rule R53 (c). -/
abbrev State.ParsedIsHeld (s : State) : Prop := s.parsed = true → s.dataReceived = true

/-- Rule R53 (d). -/
abbrev State.ParseOkFlags (s : State) : Prop :=
  s.parseOk = true →
    s.parsed = true ∧ s.fidvalid = true ∧ s.optvalid = true ∧ s.ferr = 0 ∧ s.counted = false

/-- Rule R53 (e). -/
abbrev State.RejectedFlags (s : State) : Prop :=
  s.parsed = true → s.parseOk = false →
    s.counted = true ∧ s.ferr ≠ 0 ∧ s.optvalid = false ∧ s.optdata = []

/-- Rule R53 (f). -/
abbrev State.CountedIsRejected (s : State) : Prop :=
  s.counted = true → s.parsed = true ∧ s.parseOk = false

/-- Rule R53 (g). -/
abbrev State.ModeAndOptvalid (s : State) : Prop :=
  (s.mode = .encrypted → s.fidvalid = true) ∧ (s.optvalid = true → s.parseOk = true)

/-- FSTAT = 0, every field (rule R26). -/
abbrev State.FstatClear (s : State) : Prop :=
  s.parsed = false ∧ s.parseOk = false ∧ s.counted = false ∧ s.mode = .plaintext ∧ s.fidvalid = false ∧
    s.optvalid = false ∧ s.ferr = 0

/-- Rule R53 (h). -/
abbrev State.NoFrameNoTrace (s : State) : Prop :=
  s.dataReceived = false →
    s.rxlen = 0 ∧ s.FstatClear ∧ s.fid = 0 ∧ s.optlen = 0 ∧ s.rxbuf = [] ∧ s.optdata = []

/-- Rule R53 (i). -/
abbrev State.OptdataExact (s : State) : Prop :=
  s.optvalid = true →
    s.optlen.toNat ≤ s.cfg.maxOptDataLength ∧ s.optdata.length = s.optlen.toNat

/-- Rule R53 (j). -/
abbrev State.TxodExact (s : State) : Prop :=
  s.txodlen.toNat ≤ s.cfg.maxOptDataLength ∧ s.txod.length = s.txodlen.toNat

/-- Rule R53 (k). -/
abbrev State.TxbufExact (s : State) : Prop :=
  (s.txvalid = true → 2 ≤ s.txlen.toNat ∧ s.txlen.toNat ≤ s.cfg.txCap ∧ s.txbuf.length = s.txlen.toNat) ∧
    (s.txvalid = false → s.txlen = 0 ∧ s.txbuf = [])

/-- How far the counting of the last accepted frame has come (rule R190). -/
inductive CountPhase where
  /-- No frame was ever accepted. -/
  | none
  /-- The last accepted frame has had no counter event. -/
  | uncounted
  /-- The last accepted frame has had its one counter event. -/
  | counted
deriving DecidableEq, Repr

/-- One event of a log in which every accepted frame is counted once, before the next one is accepted. -/
def countStep : CountPhase → Event → Option CountPhase
  | .uncounted, .rxAccepted _ => Option.none
  | .none, .rxAccepted _ => some .uncounted
  | .counted, .rxAccepted _ => some .uncounted
  | p, .rxDropped _ => some p
  | .uncounted, .frameInvalid _ => some .counted
  | .uncounted, .frameValid => some .counted
  | .none, .frameInvalid _ => Option.none
  | .none, .frameValid => Option.none
  | .counted, .frameInvalid _ => Option.none
  | .counted, .frameValid => Option.none

/-- The phase a log ends in; none for a log in which some frame is counted twice, is counted before it is accepted, or
is followed by another frame without having been counted. -/
def countLog (log : List Event) : Option CountPhase :=
  log.foldl (fun p e => p.bind fun q => countStep q e) (some .none)

/-- An event that counts a frame (rule R52). -/
def Event.counts : Event → Bool
  | .frameValid => true
  | .frameInvalid _ => true
  | .rxAccepted _ => false
  | .rxDropped _ => false

/-- Rule R53 (l), in the form every step keeps: the log counts every accepted frame exactly once, save that the held
frame is uncounted as long as neither PARSE nor RELEASE has counted it. -/
abbrev State.CountedOnce (s : State) : Prop :=
  countLog s.evlog ≠ Option.none ∧
    (countLog s.evlog = some .uncounted ↔ (s.dataReceived = true ∧ s.counted = false))

/-- Rules R34 to R36 for a frame that PARSE has not judged: its result registers are clear. -/
abbrev State.UnparsedClear (s : State) : Prop :=
  s.parsed = false → s.FstatClear ∧ s.fid = 0 ∧ s.optlen = 0 ∧ s.optdata = []

/-- Rule R53, clauses (a) to (g): the flags. -/
abbrev State.FlagInv (s : State) : Prop :=
  s.BusyNotDone ∧ s.CmderrIsCerr ∧ s.ParsedIsHeld ∧ s.ParseOkFlags ∧ s.RejectedFlags ∧ s.CountedIsRejected ∧
    s.ModeAndOptvalid

/-- Rule R53, clauses (h) to (l): the buffers and the event log. -/
abbrev State.DataInv (s : State) : Prop :=
  s.NoFrameNoTrace ∧ s.OptdataExact ∧ s.TxodExact ∧ s.TxbufExact ∧ s.CountedOnce

/-- Every clause of rule R53. -/
abbrev State.Inv (s : State) : Prop := s.FlagInv ∧ s.DataInv

/-- The invariant with the canonical form of the buffers and the clear results of an unjudged frame. -/
abbrev State.Safe (s : State) : Prop := s.Inv ∧ Memory.wf s = true ∧ s.UnparsedClear

/-- The states some interleaving of agent steps leads to from reset (rule R53: "reachable from reset by the steps of
this spec"), for any well-formed configuration, any schedule and any bytes delivered. -/
inductive Reachable : State → Prop where
  | reset (cfg : Cfg) (env : Env) : Reachable (State.resetWith cfg env)
  | step (s t : State) (from_s : Reachable s) (next : Machine.step s = .next t) : Reachable t

/-! ## The words claims are made in

The outcomes of a command (rule R13), field by field, written without the operations of Machine/Ops.lean. -/

/-- The command has completed: CERR = 0, CMDERR = 0, BUSY = 0, DONE = 1 (rules R13, R151). -/
def State.completed (s : State) : State := { s with busy := false, done := true, cmderr := false, cerr := 0 }

/-- The command was refused with this code (rule R311). -/
def State.refusedWith (code : Byte) (s : State) : State :=
  { s with busy := false, done := true, cmderr := true, cerr := code }

/-- PARSE completed, having rejected its frame with this code (rule R312). -/
def State.rejectedWith (code : Byte) (s : State) : State :=
  { s with
    parsed := true
    parseOk := false
    ferr := code
    optvalid := false
    optdata := []
    counted := true
    evlog := s.evlog ++ [.frameInvalid code]
    busy := false
    done := true
    cmderr := false
    cerr := 0 }

/-- PARSE completed, having accepted its frame with these n bytes of optional data (rule R182). -/
def State.acceptedWith (n : Nat) (data : List Byte) (s : State) : State :=
  { s with
    optlen := BitVec.ofNat 16 n
    optdata := data
    optvalid := true
    parsed := true
    parseOk := true
    ferr := 0
    busy := false
    done := true
    cmderr := false
    cerr := 0 }

/-- FID latched and the gate state selected (rules R179, R180). -/
def State.classified (f : Byte) (m : GateState) (s : State) : State :=
  { s with fid := f, fidvalid := true, mode := m }

/-- CSLEN is legal (rule R30). -/
abbrev State.CslenLegal (s : State) : Prop := 1 ≤ s.cslen.toNat ∧ s.cslen.toNat ≤ s.cfg.maxCallsignLen

/-- PARSE is not refused (rule R186): a frame is held, not yet parsed, and CSLEN is legal. -/
abbrev State.ParseEnabled (s : State) : Prop := s.dataReceived = true ∧ s.parsed = false ∧ s.CslenLegal

/-- Stage 1 passes (rule R177): the first CSLEN - 1 bytes are there and match. -/
abbrev State.CallsignMatches (s : State) : Prop :=
  s.cslen.toNat - 1 ≤ s.rxlen.toNat ∧
    ∀ i < s.cslen.toNat - 1, bufByte s.rxbuf i = bufByte s.callsign i

/-- Stage 2 passes (rule R178): C + 1 <= L <= RX_CAP. -/
abbrev State.LengthFits (s : State) : Prop :=
  s.cslen.toNat + 1 ≤ s.rxlen.toNat ∧ s.rxlen.toNat ≤ s.cfg.rxCap

/-- PARSE reaches stage 3 with the function-id byte f. -/
abbrev State.ReachesFid (s : State) (f : Byte) : Prop :=
  s.ParseEnabled ∧ s.CallsignMatches ∧ s.LengthFits ∧ f = bufByte s.rxbuf s.cslen.toNat

/-- E = L - C - 1 (42_decrypt_gate.md). -/
abbrev State.regionLength (s : State) : Nat := s.rxlen.toNat - s.cslen.toNat - 1

/-- Steps a and b of rule R220 pass: there is a key, and the section is 1 .. MAX_NUM_OF_BLOCKS whole blocks. -/
abbrev State.SectionWhole (s : State) : Prop :=
  s.keyen = true ∧ s.regionLength ≠ 0 ∧ s.regionLength % 16 = 0 ∧ s.regionLength ≤ s.cfg.maxN

/-- The function id f is private (rule R103). -/
abbrev PrivateFid (cfg : Cfg) (f : Byte) : Prop :=
  cfg.privateOffset ≤ f.toNat ∧ f.toNat ≤ cfg.privateOffset + cfg.numPrivateCommands

/-- The next step is the Engine's completion of the command i. -/
def State.Performs (s : State) (i : Instr) : Prop :=
  s.busy = true ∧ decodeWord s.cmdlatch = .instr i ∧
    (s.env.pending = [] ∨ ∃ rest, s.env.pending = .engine :: rest)

/-- The Engine is the next to move, and left is what is still planned after its turn: its turn is planned, or nothing is
planned at all (log entry 1). -/
abbrev State.EngineNext (s : State) (left : List AgentStep) : Prop :=
  (s.env.pending = [] ∧ left = []) ∨ s.env.pending = .engine :: left

/-- The next step is a reset. -/
def State.Resets (s : State) : Prop := ∃ rest, s.env.pending = .reset :: rest

/-- A run of steps of any agents, none of which is a RELEASE or a reset: what can happen between the rejection of a frame
and its release (rule R252). -/
inductive BeforeRelease : State → State → Prop where
  | refl (s : State) : BeforeRelease s s
  | step {s t u : State} : BeforeRelease s t → step t = .next u → ¬ t.Resets →
      (∀ rej, ¬ t.Performs (.release rej)) → BeforeRelease s u

/-- The names of rule R83 that stand in the register map of this configuration. -/
def Reg.mapped (cfg : Cfg) : Reg → Prop
  | .key m => m < 4
  | .callsign i => i < cfg.maxCallsignLen
  | .rxbuf i => i < cfg.rxCap
  | .optdata i => i < cfg.maxOptDataLength
  | .txod i => i < cfg.maxOptDataLength
  | .txbuf i => i < cfg.txCap
  | .unmapped => False
  | .ctrl => True
  | .cmd => True
  | .status => True
  | .fstat => True
  | .operand => True
  | .cslen => True
  | .rxlen => True
  | .fid => True
  | .optlen => True
  | .aescnt => True
  | .respid => True
  | .txodlen => True
  | .txlen => True
  | .flen => True

end Sys2Proof.Machine
end

