-- ==== Sys2Proof/Certificates/Slice0/Obligations.lean ====
section
/-! DEFINITION. The statements about this machine, one definition each. They say what the numbered rules of the spec say
of it; a docstring names the rules. -/

open Sys2Proof
open Sys2Proof.Machine

/-! ## Encoding -/

/-- Decode and encode agree (rules R103, R110, R111): no bit of any encoding is dropped. -/
def Obligations.DecodeOfEncodeIsTheInstruction : Prop :=
  ∀ (cfg : Cfg) (i : Instr), i.wf cfg = true → decode cfg (encode i) = .instr i

/-- Each code has one meaning: what the decoder accepts is the encoding of a well-formed instruction. -/
def Obligations.EncodeOfDecodeIsTheCode : Prop :=
  ∀ (cfg : Cfg) (c : Code) (i : Instr), decode cfg c = .instr i → encode i = c ∧ i.wf cfg = true

/-- The match and mask columns of rule R111, over the whole 32-bit word, and the spelled-out flag forms. -/
def Obligations.OpcodeTableMasksDecide : Prop :=
  (∀ w : Word,
    (w &&& 0xFFFFFFFF = 0x00000000 ↔ decodeWord w = .instr .nop) ∧
    (w &&& 0xFFFFFFFF = 0x00000001 ↔ decodeWord w = .instr .parse) ∧
    (w &&& 0xFFFFFDFF = 0x00000002 ↔ ∃ rej, decodeWord w = .instr (.release rej)) ∧
    (w &&& 0xFFFFFEFF = 0x00000003 ↔ ∃ enc, decodeWord w = .instr (.framelen enc)) ∧
    (w &&& 0xFFFFFEFF = 0x00000004 ↔ ∃ enc, decodeWord w = .instr (.encode enc)) ∧
    (w &&& 0xFFFFFFFF = 0x00000005 ↔ decodeWord w = .instr .txclear) ∧
    (w &&& 0xFFFFFFFF = 0x00000006 ↔ decodeWord w = .instr .push8) ∧
    (w &&& 0xFFFFFFFF = 0x00000007 ↔ decodeWord w = .instr .push16) ∧
    (w &&& 0xFFFFFFFF = 0x00000008 ↔ decodeWord w = .instr .push32)) ∧
  decodeWord 0x00000002 = .instr (.release false) ∧ decodeWord 0x00000202 = .instr (.release true) ∧
  decodeWord 0x00000003 = .instr (.framelen false) ∧ decodeWord 0x00000103 = .instr (.framelen true) ∧
  decodeWord 0x00000004 = .instr (.encode false) ∧ decodeWord 0x00000104 = .instr (.encode true)

/-- A few words written out from rule R111. -/
def Obligations.WordsOfTheTableDecode : Prop :=
  decodeWord 0x00000000 = .instr .nop ∧ decodeWord 0x00000001 = .instr .parse ∧
    decodeWord 0x00000202 = .instr (.release true) ∧ decodeWord 0x00000104 = .instr (.encode true) ∧
    decodeWord 0x00000008 = .instr .push32

/-- Rule R112: which words are illegal, that CMD takes them, and what their completion does, at a planned turn of the
Engine (the wait of rule R120) and where no agent is planned. That the Engine moves in the second case is the model's
choice (log entry 1). -/
def Obligations.IllegalWordsAreTakenAndRefused : Prop :=
  (∀ w : Word, (∃ e, decodeWord w = .illegal e) ↔
    (w.extractLsb' 10 22 ≠ 0 ∨ 0x09 ≤ (w.extractLsb' 0 8).toNat ∨
      (w.getLsbD 8 = true ∧ w.extractLsb' 0 8 ≠ 0x03 ∧ w.extractLsb' 0 8 ≠ 0x04) ∨
      (w.getLsbD 9 = true ∧ w.extractLsb' 0 8 ≠ 0x02))) ∧
  (∀ (s : State) (w : Word) (rest : List AgentStep), s.busy = false →
    s.env.pending = .regWrite 0x0004 w :: rest →
      step s = .next { s.withPending rest with cmdlatch := w, busy := true, done := false }) ∧
  (∀ (s : State) (left : List AgentStep) (e : DecodeError), s.busy = true → s.EngineNext left →
    decodeWord s.cmdlatch = .illegal e →
      step s = .next { s.withPending left with busy := false, done := true, cmderr := true, cerr := 0x01 })

/-- The partition of the function ids (rules R103, R180), with what rule R103 says of its ends. -/
def Obligations.FunctionIdClassesPartition : Prop :=
  ∀ cfg : Cfg,
    (∀ f : Byte,
      (f.toNat < cfg.privateOffset ↔ decode cfg (.fid f) = .instr (.framePublic f)) ∧
      (PrivateFid cfg f ↔ decode cfg (.fid f) = .instr (.framePrivate f)) ∧
      (cfg.privateOffset + cfg.numPrivateCommands < f.toNat ↔
        decode cfg (.fid f) = .instr (.frameInvalid f)) ∧
      (255 ≤ cfg.privateOffset + cfg.numPrivateCommands → decode cfg (.fid f) ≠ .instr (.frameInvalid f)) ∧
      (cfg.privateOffset = 0 → decode cfg (.fid f) ≠ .instr (.framePublic f))) ∧
    (cfg.privateOffset + cfg.numPrivateCommands ≤ 255 →
      (Finset.univ.filter fun f : Byte => decode cfg (.fid f) = .instr (.framePrivate f)).card =
        cfg.numPrivateCommands + 1)

/-! ## The step -/

/-- A step of the Engine runs the instruction that CMDLATCH decodes to (rule R151): alone when no other agent is to
move, or when the Engine is the next to move, with its turn taken off the schedule. The schedule is the model's (log
entry 1). -/
def Obligations.StepRunsTheLatchedInstruction : Prop :=
  ∀ (s : State) (i : Instr) (rest : List AgentStep), s.busy = true → decodeWord s.cmdlatch = .instr i →
    (s.env.pending = [] → step s = exec i s) ∧
    (s.env.pending = .engine :: rest → step s = exec i (s.withPending rest))

/-- PARSE, once stages 1 and 2 pass, does what the FRAME row of its function-id byte does (rules R103, R179, R180). That
the three FRAME rows of the opcode table stand for this part of PARSE is the model's choice (log entry 5). -/
def Obligations.ParseRunsTheFrameClass : Prop :=
  ∀ (s : State) (f : Byte), s.ReachesFid f → exec .parse s = exec (decodeFid s.cfg f) s

/-- Rules R151 and R355: whatever word is latched, the Engine completes it in one step, planned or alone; CERR is one of
the codes of rule R310, CMDERR says whether it is 0, the interrupt outputs follow the flags (rule R51), and the rest of
the schedule stays. That the Engine moves when no other agent is planned is the model's choice (log entry 1). -/
def Obligations.EveryLatchedWordIsCompleted : Prop :=
  ∀ (s : State) (left : List AgentStep), s.busy = true → s.EngineNext left →
    ∃ t, step s = .next t ∧ t.env.pending = left ∧ t.busy = false ∧ t.done = true ∧ t.cerr.toNat ≤ 6 ∧
      (t.cmderr = true ↔ t.cerr ≠ 0) ∧ irqDone t = s.ieDone ∧ irqRx t = (s.ieRx && t.dataReceived)

/-- Rule R151, the other half of "enabled exactly when BUSY = 1": while BUSY = 0 the Engine's turn changes nothing in the
block. What is left of a turn that is not enabled is the model's choice (log entry 1). -/
def Obligations.EngineRestsWhileIdle : Prop :=
  ∀ s : State, s.busy = false →
    (s.env.pending = [] → step s = .next s) ∧
    (∀ rest, s.env.pending = .engine :: rest → step s = .next (s.withPending rest))

/-- What the spec derives in rules R27 and R114: no instruction writes a register of the Host's, CMDLATCH, HAZARD or what
is around the block (the model's own, log entry 1). -/
def Obligations.InstructionsWriteNoHostRegister : Prop :=
  ∀ (i : Instr) (s t : State), exec i s = .next t →
    t.cfg = s.cfg ∧ t.rxen = s.rxen ∧ t.keyen = s.keyen ∧ t.ieRx = s.ieRx ∧ t.ieDone = s.ieDone ∧
    t.cmdlatch = s.cmdlatch ∧ t.hazard = s.hazard ∧ t.operand = s.operand ∧ t.cslen = s.cslen ∧
    t.callsign = s.callsign ∧ t.key = s.key ∧ t.respid = s.respid ∧ t.env = s.env

/-! ## The bus -/

/-- Rule R150: issue while idle; a command written while BUSY is lost and sets HAZARD. -/
def Obligations.IssueLatchesTheWord : Prop :=
  ∀ (s : State) (w : Word) (rest : List AgentStep), s.env.pending = .regWrite 0x0004 w :: rest →
    (s.busy = false →
      step s = .next { s.withPending rest with cmdlatch := w, busy := true, done := false }) ∧
    (s.busy = true → step s = .next { s.withPending rest with hazard := true })

/-- Rule R141: every write, by its offset. -/
def Obligations.HostWritesStoreTheirRegister : Prop :=
  ∀ (s : State) (off : Half) (v : Word) (rest : List AgentStep), off.toNat % 4 = 0 →
    s.env.pending = .regWrite off v :: rest →
    (s.busy = true → step s = .next { s.withPending rest with hazard := true }) ∧
    (s.busy = false →
      (off = 0x0000 → step s = .next { s.withPending rest with
        rxen := v.getLsbD 0, keyen := v.getLsbD 1, ieRx := v.getLsbD 2, ieDone := v.getLsbD 3 }) ∧
      (off = 0x0004 → step s = .next { s.withPending rest with cmdlatch := v, busy := true, done := false }) ∧
      (off = 0x0010 → step s = .next { s.withPending rest with operand := v }) ∧
      (off = 0x0014 → step s = .next { s.withPending rest with cslen := v.extractLsb' 0 8 }) ∧
      (off = 0x0028 → step s = .next { s.withPending rest with respid := v.extractLsb' 0 8 }) ∧
      (∀ m < 4, off.toNat = 0x0040 + 4 * m →
        ∃ k : Block, step s = .next { s.withPending rest with key := k } ∧
          (∀ j < 4, k.1.getD (4 * m + j) 0 = v.extractLsb' (8 * j) 8) ∧
          (∀ n < 16, n / 4 ≠ m → k.1.getD n 0 = s.key.1.getD n 0)) ∧
      (∀ i < s.cfg.maxCallsignLen, off.toNat = 0x1000 + 4 * i →
        step s = .next { s.withPending rest with callsign := s.callsign.set i (v.extractLsb' 0 8) }) ∧
      (off ≠ 0x0000 → off ≠ 0x0004 → off ≠ 0x0010 → off ≠ 0x0014 → off ≠ 0x0028 →
        ¬ (0x0040 ≤ off.toNat ∧ off.toNat ≤ 0x004C) →
        ¬ (0x1000 ≤ off.toNat ∧ off.toNat < 0x1000 + 4 * s.cfg.maxCallsignLen) →
        step s = .next (s.withPending rest)))

/-- The flag registers as words (rules R23, R25, R26, R140): every field at its bit, every other bit 0. -/
def Obligations.FlagWordsHoldTheirFields : Prop :=
  ∀ s : State,
    ((statusWord s).getLsbD 0 = s.busy ∧ (statusWord s).getLsbD 1 = s.done ∧
      (statusWord s).getLsbD 2 = s.cmderr ∧ (statusWord s).getLsbD 3 = s.hazard ∧
      (statusWord s).getLsbD 4 = s.dataReceived ∧ (statusWord s).getLsbD 5 = s.txvalid ∧
      (statusWord s).extractLsb' 6 2 = 0 ∧ (statusWord s).extractLsb' 8 8 = s.cerr ∧
      (statusWord s).extractLsb' 16 16 = 0) ∧
    ((fstatWord s).getLsbD 0 = s.parsed ∧ (fstatWord s).getLsbD 1 = s.parseOk ∧
      (fstatWord s).getLsbD 2 = s.counted ∧ ((fstatWord s).getLsbD 3 = true ↔ s.mode = .encrypted) ∧
      (fstatWord s).getLsbD 4 = s.fidvalid ∧ (fstatWord s).getLsbD 5 = s.optvalid ∧
      (fstatWord s).extractLsb' 6 2 = 0 ∧ (fstatWord s).extractLsb' 8 8 = s.ferr ∧
      (fstatWord s).extractLsb' 16 16 = 0) ∧
    ((ctrlWord s).getLsbD 0 = s.rxen ∧ (ctrlWord s).getLsbD 1 = s.keyen ∧ (ctrlWord s).getLsbD 2 = s.ieRx ∧
      (ctrlWord s).getLsbD 3 = s.ieDone ∧ (ctrlWord s).extractLsb' 4 28 = 0)

/-- Rule R140 while BUSY = 0: the answer at every offset; nothing but the Host's copy (the model's own, log entry 4)
changes. -/
def Obligations.HostReadsWhileIdle : Prop :=
  ∀ (s : State) (off : Half) (rest : List AgentStep), off.toNat % 4 = 0 → s.busy = false →
    s.env.pending = .regRead off :: rest →
    ∃ v : Word,
      step s = .next { s with env := { pending := rest, rdata := v, draws := s.env.draws } } ∧
      (off = 0x0000 → v = ctrlWord s) ∧ (off = 0x0008 → v = statusWord s) ∧ (off = 0x000C → v = fstatWord s) ∧
      (off = 0x0010 → v = s.operand) ∧ (off = 0x0014 → v = s.cslen.setWidth 32) ∧
      (off = 0x0018 → v = s.rxlen.setWidth 32) ∧ (off = 0x001C → v = s.fid.setWidth 32) ∧
      (off = 0x0020 → v = s.optlen.setWidth 32) ∧ (off = 0x0024 → v = s.aescnt) ∧
      (off = 0x0028 → v = s.respid.setWidth 32) ∧ (off = 0x002C → v = s.txodlen.setWidth 32) ∧
      (off = 0x0030 → v = s.txlen.setWidth 32) ∧ (off = 0x0034 → v = s.flen.setWidth 32) ∧
      (∀ i < s.cfg.maxCallsignLen, off.toNat = 0x1000 + 4 * i → v = (s.callsign.getD i 0).setWidth 32) ∧
      (∀ i < s.cfg.rxCap, off.toNat = 0x2000 + 4 * i →
        v = if s.dataReceived = true ∧ i < min s.rxlen.toNat s.cfg.rxCap then (s.rxbuf.getD i 0).setWidth 32
            else 0) ∧
      (∀ i < s.cfg.maxOptDataLength, off.toNat = 0x3000 + 4 * i →
        v = if s.optvalid = true ∧ i < s.optlen.toNat then (s.optdata.getD i 0).setWidth 32 else 0) ∧
      (∀ i < s.cfg.maxOptDataLength, off.toNat = 0x4000 + 4 * i →
        v = if i < s.txodlen.toNat then (s.txod.getD i 0).setWidth 32 else 0) ∧
      (∀ i < s.cfg.txCap, off.toNat = 0x5000 + 4 * i →
        v = if s.txvalid = true ∧ i < s.txlen.toNat then (s.txbuf.getD i 0).setWidth 32 else 0) ∧
      (off = 0x0004 ∨ (0x0038 ≤ off.toNat ∧ off.toNat < 0x1000) ∨
        (0x1000 + 4 * s.cfg.maxCallsignLen ≤ off.toNat ∧ off.toNat < 0x2000) ∨
        (0x2000 + 4 * s.cfg.rxCap ≤ off.toNat ∧ off.toNat < 0x3000) ∨
        (0x3000 + 4 * s.cfg.maxOptDataLength ≤ off.toNat ∧ off.toNat < 0x4000) ∨
        (0x4000 + 4 * s.cfg.maxOptDataLength ≤ off.toNat ∧ off.toNat < 0x5000) ∨
        (0x5000 + 4 * s.cfg.txCap ≤ off.toNat ∧ off.toNat < 0x6000) ∨ 0x6000 ≤ off.toNat → v = 0)

/-- Rule R350, the two lines: while BUSY = 1 a write only sets HAZARD, and a read changes nothing and is exact for
STATUS and CTRL. Nothing is said of the other answers: they are free values (log entry 4). The Host's copy of the answer
is the model's own. -/
def Obligations.BusyDiscipline : Prop :=
  ∀ (s : State) (off : Half) (rest : List AgentStep), s.busy = true → off.toNat % 4 = 0 →
    (∀ v : Word, s.env.pending = .regWrite off v :: rest →
      step s = .next { s.withPending rest with hazard := true }) ∧
    (s.env.pending = .regRead off :: rest →
      ∃ e : Env, e.pending = rest ∧ step s = .next { s with env := e } ∧
        (off = 0x0008 → e.rdata = statusWord s) ∧ (off = 0x0000 → e.rdata = ctrlWord s))

/-- Rules R25 and R350: HAZARD is set by a write while BUSY = 1 and by nothing else, and only a reset clears it. -/
def Obligations.HazardIsSticky : Prop :=
  ∀ s t : State, step s = .next t →
    (s.hazard = true → t.hazard = true ∨ s.Resets) ∧
    (s.hazard = false → t.hazard = true →
      s.busy = true ∧ ∃ off v rest, s.env.pending = .regWrite off v :: rest)

/-- Rule R75 and behaviour U5: an offset that is not a multiple of 4 cannot be put on the bus; the name of the refusal
is the model's (log entry 6). -/
def Obligations.MisalignedOffsetIsRefused : Prop :=
  ∀ (s : State) (off : Half) (v : Word) (rest : List AgentStep), off.toNat % 4 ≠ 0 →
    (s.env.pending = .regRead off :: rest → step s = .refused (.misalignedOffset off)) ∧
    (s.env.pending = .regWrite off v :: rest → step s = .refused (.misalignedOffset off))

/-- Rule R83 read as a function: every register of the map answers at its own offset, so no two share one. -/
def Obligations.RegisterMapIsOneToOne : Prop :=
  ∀ (cfg : Cfg) (r : Reg), r.mapped cfg → (offsetOf r).toNat % 4 = 0 ∧ regAt cfg (offsetOf r) = r

/-- Rules R32 and R87: no read of the bus tells the key. For a read of other than STATUS and CTRL while BUSY = 1, whose
answer rule R152 leaves open, this is the model's choice: its free value depends on the count of such reads alone (log
entry 4). -/
def Obligations.KeyIsNeverReadBack : Prop :=
  ∀ (s t t' : State) (k : Block) (off : Half) (rest : List AgentStep),
    s.env.pending = .regRead off :: rest → step s = .next t → step { s with key := k } = .next t' →
    t'.env = t.env ∧ t' = { t with key := k }

/-! ## The receive port -/

/-- Rule R171. -/
def Obligations.OpenPortAcceptsTheFrame : Prop :=
  ∀ (s : State) (data : List Byte) (rest : List AgentStep), s.env.pending = .deliver data :: rest →
    s.rxen = true → s.dataReceived = false → s.busy = false →
    ∃ t, step s = .next t ∧
      t = { s.withPending rest with
        rxbuf := data.take s.cfg.rxCap
        rxlen := BitVec.ofNat 16 (min data.length 0xFFFF)
        dataReceived := true
        evlog := s.evlog ++ [.rxAccepted (BitVec.ofNat 16 (min data.length 0xFFFF))] } ∧
      (s.Inv → t.FstatClear ∧ t.fid = 0 ∧ t.optlen = 0 ∧ t.optdata = []) ∧ irqRx t = s.ieRx

/-- Rule R172. -/
def Obligations.ClosedPortDropsTheFrame : Prop :=
  ∀ (s : State) (data : List Byte) (rest : List AgentStep), s.env.pending = .deliver data :: rest →
    (s.rxen = false ∨ s.dataReceived = true ∨ s.busy = true) →
    step s = .next { s.withPending rest with
      evlog := s.evlog ++ [.rxDropped (BitVec.ofNat 16 (min data.length 0xFFFF))] }

/-! ## NOP -/

/-- Rule R155. -/
def Obligations.NopOnlyCompletes : Prop :=
  decodeWord 0x00000000 = .instr .nop ∧
  ∀ s : State, exec .nop s = .next { s with busy := false, done := true, cmderr := false, cerr := 0 }

/-! ## PARSE -/

/-- Rule R186: when PARSE is refused, with which code, and that nothing but the completion flags changes. -/
def Obligations.ParseIsRefused : Prop :=
  ∀ s : State,
    (s.dataReceived = false ∨ s.parsed = true → exec .parse s = .next (s.refusedWith 0x03)) ∧
    (s.dataReceived = true → s.parsed = false → ¬ s.CslenLegal → exec .parse s = .next (s.refusedWith 0x02))

/-- Rules R177 to R181: the rejections before the gate, each with what the stages before it wrote. -/
def Obligations.ParseRejectsBeforeTheGate : Prop :=
  ∀ s : State, s.ParseEnabled →
    (¬ s.CallsignMatches → exec .parse s = .next (s.rejectedWith 0x01)) ∧
    (s.CallsignMatches → ¬ s.LengthFits → exec .parse s = .next (s.rejectedWith 0x02)) ∧
    (∀ f, s.ReachesFid f → s.cfg.privateOffset + s.cfg.numPrivateCommands < f.toNat →
      exec .parse s = .next ({ s with fid := f, fidvalid := true }.rejectedWith 0x05)) ∧
    (∀ f, s.ReachesFid f → f.toNat < s.cfg.privateOffset → s.cfg.maxOptDataLength < s.regionLength →
      exec .parse s = .next ((s.classified f .plaintext).rejectedWith 0x02))

/-- Rules R181 and R182: a public frame whose optional data fits is parsed, byte for byte. -/
def Obligations.ParseCopiesPublicOptionalData : Prop :=
  ∀ (s : State) (f : Byte), s.ReachesFid f → f.toNat < s.cfg.privateOffset →
    s.regionLength ≤ s.cfg.maxOptDataLength →
    exec .parse s = .next ((s.classified f .plaintext).acceptedWith s.regionLength
      ((s.rxbuf.drop (s.cslen.toNat + 1)).take s.regionLength))

/-- Rules R212, R213, R216, R217, R218 and R220: the rejections of the decryption gate, the block calls before each, and
the clamp. -/
def Obligations.GateRejectsInOrder : Prop :=
  ∀ (s : State) (f : Byte), s.ReachesFid f → PrivateFid s.cfg f →
    (¬ s.SectionWhole → exec .parse s = .next ((s.classified f .encrypted).rejectedWith 0x04)) ∧
    (s.SectionWhole → s.cfg.maxN < s.lengthByte →
      exec .parse s = .next ({ s.classified f .encrypted with
        aescnt := s.aescnt + 1, optlen := BitVec.ofNat 16 s.cfg.maxN }.rejectedWith 0x03)) ∧
    (s.SectionWhole → s.lengthByte ≤ s.cfg.maxN → s.regionLength < 1 + s.lengthByte →
      exec .parse s = .next ({ s.classified f .encrypted with aescnt := s.aescnt + 1 }.rejectedWith 0x04)) ∧
    (s.SectionWhole → s.lengthByte ≤ s.cfg.maxN → 1 + s.lengthByte ≤ s.regionLength →
      s.cfg.maxOptDataLength < s.lengthByte →
      exec .parse s = .next ({ s.classified f .encrypted with aescnt := s.aescnt + 1 }.rejectedWith 0x02))

/-- Rules R214, R219 and R182: a private frame that passes every test is decrypted, in ceil16(1 + N) / 16 block calls,
and its N data bytes stand in OPTDATA. -/
def Obligations.GateDecryptsPrivateOptionalData : Prop :=
  ∀ (s : State) (f : Byte), s.ReachesFid f → PrivateFid s.cfg f → s.SectionWhole →
    s.lengthByte ≤ s.cfg.maxN → 1 + s.lengthByte ≤ s.regionLength →
    s.lengthByte ≤ s.cfg.maxOptDataLength →
    exec .parse s = .next
      ({ s.classified f .encrypted with
          aescnt := s.aescnt + BitVec.ofNat 32 ((1 + s.lengthByte + 15) / 16) }.acceptedWith s.lengthByte
        (((mapBlocks (aesDec s.cfg.cipher s.key) ((1 + s.lengthByte + 15) / 16)
            ((s.rxbuf.drop (s.cslen.toNat + 1)).take s.regionLength)).drop 1).take s.lengthByte))

/-- FRAME.PUBLIC (rules R179 to R182): the optional data fits, and the frame is accepted. The row stands for PARSE from
stage 3 on: the model's choice (log entry 5). -/
def Obligations.FramePublicCompletes : Prop :=
  ∀ (s : State) (f : Byte), s.regionLength ≤ s.cfg.maxOptDataLength →
    exec (.framePublic f) s = .next ((s.classified f .plaintext).acceptedWith s.regionLength
      ((s.rxbuf.drop (s.cslen.toNat + 1)).take s.regionLength))

/-- FRAME.PRIVATE (rules R212 to R220): every test passes, and the frame is accepted. The row stands for PARSE from
stage 3 on: the model's choice (log entry 5). -/
def Obligations.FramePrivateCompletes : Prop :=
  ∀ (s : State) (f : Byte), s.SectionWhole →
    s.lengthByte ≤ s.cfg.maxN → 1 + s.lengthByte ≤ s.regionLength →
    s.lengthByte ≤ s.cfg.maxOptDataLength →
    exec (.framePrivate f) s = .next
      ({ s.classified f .encrypted with
          aescnt := s.aescnt + BitVec.ofNat 32 ((1 + s.lengthByte + 15) / 16) }.acceptedWith s.lengthByte
        (((mapBlocks (aesDec s.cfg.cipher s.key) ((1 + s.lengthByte + 15) / 16)
            ((s.rxbuf.drop (s.cslen.toNat + 1)).take s.regionLength)).drop 1).take s.lengthByte))

/-- FRAME.INVALID (rules R103, R180): rejecting the frame is what the row does, in every state. The row stands for PARSE
from stage 3 on: the model's choice (log entry 5). -/
def Obligations.FrameInvalidCompletes : Prop :=
  ∀ (s : State) (f : Byte),
    exec (.frameInvalid f) s = .next ({ s with fid := f, fidvalid := true }.rejectedWith 0x05)

/-- FRAME.PUBLIC and FRAME.PRIVATE where they reject (rules R181, R220; log entry 5). -/
def Obligations.FrameRowsReject : Prop :=
  ∀ (s : State) (f : Byte),
    (s.cfg.maxOptDataLength < s.regionLength →
      exec (.framePublic f) s = .next ((s.classified f .plaintext).rejectedWith 0x02)) ∧
    (¬ s.SectionWhole →
      exec (.framePrivate f) s = .next ((s.classified f .encrypted).rejectedWith 0x04)) ∧
    (s.SectionWhole → s.cfg.maxN < s.lengthByte →
      exec (.framePrivate f) s = .next ({ s.classified f .encrypted with
        aescnt := s.aescnt + 1, optlen := BitVec.ofNat 16 s.cfg.maxN }.rejectedWith 0x03)) ∧
    (s.SectionWhole → s.lengthByte ≤ s.cfg.maxN → s.regionLength < 1 + s.lengthByte →
      exec (.framePrivate f) s = .next ({ s.classified f .encrypted with
        aescnt := s.aescnt + 1 }.rejectedWith 0x04)) ∧
    (s.SectionWhole → s.lengthByte ≤ s.cfg.maxN → 1 + s.lengthByte ≤ s.regionLength →
      s.cfg.maxOptDataLength < s.lengthByte →
      exec (.framePrivate f) s = .next ({ s.classified f .encrypted with
        aescnt := s.aescnt + 1 }.rejectedWith 0x02))

/-- Rule R177: "The byte at index C - 1 ... is not compared": whatever it is, PARSE does the same. -/
def Obligations.LastCallsignByteIsNotCompared : Prop :=
  ∀ (s t : State) (b : Byte), exec .parse s = .next t →
    exec .parse { s with rxbuf := s.rxbuf.set (s.cslen.toNat - 1) b } =
      .next { t with rxbuf := s.rxbuf.set (s.cslen.toNat - 1) b }

/-- What the spec derives in rule R221: on every path of the gate OPTLEN is at most min(MAXN, 255), and after a success at
most min(E - 1, MAX_OPT_DATA_LENGTH), with exactly OPTLEN bytes copied: never an overrun, whatever the key. -/
def Obligations.GateBoundsOptlen : Prop :=
  ∀ (s : State) (f : Byte), s.ReachesFid f → PrivateFid s.cfg f → s.optlen = 0 →
    ∃ t, exec .parse s = .next t ∧ t.optlen.toNat ≤ min s.cfg.maxN 255 ∧
      (t.parseOk = true →
        t.optlen.toNat ≤ min (s.regionLength - 1) s.cfg.maxOptDataLength ∧
        t.optdata.length = t.optlen.toNat)

/-- Rule R222: after a rejection nothing decrypted can be read, no response can be built, and the frame was counted once,
as invalid. -/
def Obligations.RejectedFrameIsNeverEchoed : Prop :=
  ∀ s t : State, s.ParseEnabled → exec .parse s = .next t → t.parseOk = false →
    t.optdata = [] ∧ t.optvalid = false ∧ (∀ i, idleRead t (.optdata i) = 0) ∧
    (∀ enc u, exec (.encode enc) t = .next u →
      u.cerr = 0x06 ∧ u.cmderr = true ∧ u.txvalid = false ∧ u.txbuf = [] ∧ u.txlen = 0) ∧
    t.evlog = s.evlog ++ [.frameInvalid t.ferr] ∧ t.ferr ≠ 0 ∧
    (t.optlen = s.optlen ∨ (t.ferr = 0x03 ∧ t.optlen = BitVec.ofNat 16 s.cfg.maxN))

/-! ## RELEASE and the counting of frames -/

/-- Rules R188 and R191: RELEASE is refused where no frame is held; otherwise it counts the frame unless PARSE has, and
clears every trace of it. -/
def Obligations.ReleaseCountsAndClears : Prop :=
  decodeWord 0x00000002 = .instr (.release false) ∧ decodeWord 0x00000202 = .instr (.release true) ∧
  ∀ (s : State) (rej : Bool),
    (s.dataReceived = false → exec (.release rej) s = .next (s.refusedWith 0x03)) ∧
    (s.dataReceived = true → exec (.release rej) s = .next
      { s with
        evlog := if s.counted = true then s.evlog
          else if rej = false ∧ s.parseOk = true then s.evlog ++ [.frameValid]
          else s.evlog ++ [.frameInvalid (s.operand.extractLsb' 0 8)]
        dataReceived := false
        parsed := false
        parseOk := false
        counted := false
        mode := .plaintext
        fidvalid := false
        optvalid := false
        ferr := 0
        fid := 0
        optlen := 0
        optdata := []
        rxlen := 0
        rxbuf := []
        busy := false
        done := true
        cmderr := false
        cerr := 0 })

/-- What a log that countLog accepts says (rule R190): between one accepted frame and the next there is exactly one
counter event, and after the last accepted frame at most one, which is there exactly when the phase is counted. -/
def Obligations.CountedLogHasOneEventPerFrame : Prop :=
  ∀ (log before mid after : List Event) (len : Half) (p : CountPhase), countLog log = some p →
    log = before ++ .rxAccepted len :: (mid ++ after) → (∀ e ∈ mid, ∀ n, e ≠ .rxAccepted n) →
    (mid.filter Event.counts).length ≤ 1 ∧
    ((∃ n tail, after = .rxAccepted n :: tail) → (mid.filter Event.counts).length = 1) ∧
    (after = [] → ((mid.filter Event.counts).length = 1 ↔ p = .counted))

/-! ## Invariants -/

/-- Every step of every agent keeps the invariants the spec derives in rule R53, the canonical form of the buffers (log
entry 9) and the clear results of an unjudged frame. -/
def Obligations.StepKeepsSafe : Prop :=
  ∀ s t : State, s.Safe → step s = .next t → t.Safe

/-- The invariants hold after reset, for every configuration and every schedule (rule R340, its last sentence; the
canonical form of the buffers is the model's, log entry 9). -/
def Obligations.ResetIsSafe : Prop :=
  ∀ (cfg : Cfg) (env : Env), (State.resetWith cfg env).Safe

/-- What the spec derives in rule R53, clauses (a) to (l): in every state reachable from reset by any interleaving of
agent steps. -/
def Obligations.ReachableStatesKeepTheInvariants : Prop :=
  ∀ s : State, Reachable s → s.Inv ∧
    ∀ (before mid after : List Event) (len : Half),
      s.evlog = before ++ .rxAccepted len :: (mid ++ after) → (∀ e ∈ mid, ∀ n, e ≠ .rxAccepted n) →
      (mid.filter Event.counts).length ≤ 1 ∧
      ((∃ n tail, after = .rxAccepted n :: tail) ∨ (after = [] ∧ s.dataReceived = false) →
        (mid.filter Event.counts).length = 1)

/-- The configuration is fixed for the machine, and reset keeps it (log entry 2); rule R52: EVLOG is append-only, emptied
by reset alone. -/
def Obligations.ConfigurationFixedAndLogAppendOnly : Prop :=
  ∀ s t : State, step s = .next t →
    t.cfg = s.cfg ∧ ((∃ l, t.evlog = s.evlog ++ l) ∨ (s.Resets ∧ t.evlog = []))

/-- Rule R82: who writes which buffer. Clearing, reset and the dropping of a transmit frame are writes too. -/
def Obligations.BuffersHaveOneOwner : Prop :=
  ∀ s t : State, step s = .next t →
    (t.rxbuf ≠ s.rxbuf → s.Resets ∨ (∃ rej, s.Performs (.release rej)) ∨
      (s.dataReceived = false ∧ s.busy = false ∧ ∃ data rest, s.env.pending = .deliver data :: rest)) ∧
    (t.optdata ≠ s.optdata → s.Resets ∨ s.Performs .parse ∨ ∃ rej, s.Performs (.release rej)) ∧
    (t.txod ≠ s.txod → s.Resets ∨ s.Performs .txclear ∨ s.Performs .push8 ∨ s.Performs .push16 ∨
      s.Performs .push32) ∧
    (t.txbuf ≠ s.txbuf → s.Resets ∨ s.Performs .txclear ∨ s.Performs .push8 ∨ s.Performs .push16 ∨
      s.Performs .push32 ∨ ∃ enc, s.Performs (.encode enc))

/-- Rules R44, R210 and R355, with R212 and R253: AESCNT moves only at a PARSE that reaches the gate with a private
function id and a key enabled, or at ENCODE.ENC with a key enabled, by at most MAX_NUM_OF_BLOCKS block calls (rules R219,
R255), or at reset. -/
def Obligations.AesIsInvokedOnlyForEncryptedFrames : Prop :=
  ∀ s t : State, step s = .next t → t.aescnt ≠ s.aescnt →
    s.Resets ∨
    ((∃ n ≤ s.cfg.maxNumOfBlocks, t.aescnt = s.aescnt + BitVec.ofNat 32 n) ∧ s.keyen = true ∧
      ((s.Performs .parse ∧ t.mode = .encrypted ∧ PrivateFid s.cfg t.fid) ∨ s.Performs (.encode true)))

/-- Rules R252 and R313: a block silenced by a rejected frame stays silenced until RELEASE or reset, and meanwhile no step
makes a transmit frame valid. That a frame built before the rejection stays is the model's choice (log entry 8). -/
def Obligations.SilenceHoldsUntilRelease : Prop :=
  ∀ s t : State, s.dataReceived = true → s.parsed = true → s.parseOk = false → step s = .next t →
    (t.txvalid = true → s.txvalid = true) ∧
    ((t.dataReceived = true ∧ t.parsed = true ∧ t.parseOk = false) ∨ s.Resets ∨
      ∃ rej, s.Performs (.release rej))

/-- Rules R252 and R313 over every interleaving from the rejection of a frame to its release: the block stays silenced and
shows no parse result; no transmit frame is valid, unless one was built before the PARSE that rejects (log entry 8); every
ENCODE is refused, with CERR_SILENCED where CSLEN is legal (the order of rule R257), and after it none is valid in either
case. -/
def Obligations.NoTransmitFrameFromRejectionToRelease : Prop :=
  ∀ s t u : State, s.ParseEnabled → exec .parse s = .next t → t.parseOk = false → BeforeRelease t u →
    silenced u = true ∧ u.parseOk = false ∧ u.optvalid = false ∧ (s.txvalid = false → u.txvalid = false) ∧
    (∀ (enc : Bool) (v w : State), u.Performs (.encode enc) → step u = .next v → BeforeRelease v w →
      (u.CslenLegal → v.cerr = 0x06) ∧ v.cmderr = true ∧ v.txbuf = [] ∧ v.txlen = 0 ∧ silenced w = true ∧ w.txvalid = false)

/-- Rule R256 with rules R25, R43 and R175: a valid transmit frame stays as it is, also over a PARSE that rejects (where R252
says otherwise: the model's choice, log entry 8), until TXCLEAR, a completed PUSH, a refused ENCODE or reset, which empty
it, or a completed ENCODE, which replaces it. -/
def Obligations.TransmitFrameStaysUntilCleared : Prop :=
  ∀ s t : State, s.txvalid = true → step s = .next t →
    (t.txvalid = true ∧ t.txbuf = s.txbuf ∧ t.txlen = s.txlen) ∨
    (t.txvalid = true ∧ t.cmderr = false ∧ ∃ enc, s.Performs (.encode enc)) ∨
    (t.txvalid = false ∧ t.txbuf = [] ∧ t.txlen = 0 ∧
      (s.Resets ∨ s.Performs .txclear ∨
        (t.cmderr = false ∧ (s.Performs .push8 ∨ s.Performs .push16 ∨ s.Performs .push32)) ∨
        (t.cmderr = true ∧ ∃ enc, s.Performs (.encode enc))))

/-! ## Reset -/

/-- The table of rule R340. -/
def Obligations.ResetStateIsTheTable : Prop :=
  ∀ (cfg : Cfg) (env : Env) (s : State), s = State.resetWith cfg env →
    ctrlWord s = 0 ∧ s.cmdlatch = 0 ∧ statusWord s = 0 ∧ fstatWord s = 0 ∧ s.operand = 0 ∧ s.cslen = 0 ∧
    (s.callsign.length = cfg.maxCallsignLen ∧ ∀ b ∈ s.callsign, b = 0) ∧ (∀ b ∈ s.key.1, b = 0) ∧
    s.rxbuf = [] ∧ s.rxlen = 0 ∧ s.fid = 0 ∧ s.optlen = 0 ∧ s.optdata = [] ∧ s.respid = 0 ∧
    s.txod = [] ∧ s.txodlen = 0 ∧ s.flen = 0 ∧ s.txbuf = [] ∧ s.txlen = 0 ∧ s.aescnt = 0 ∧
    irqRx s = false ∧ irqDone s = false ∧ s.evlog = [] ∧ s.Inv

/-- Rule R341: a reset in any state leaves the reset state, with the configuration and what is around the block (log
entries 1 and 2). -/
def Obligations.ResetDiscardsEverything : Prop :=
  ∀ (s : State) (rest : List AgentStep), s.env.pending = .reset :: rest →
    ∃ t, step s = .next t ∧ t = State.resetWith s.cfg { s.env with pending := rest } ∧
      t.evlog = [] ∧ t.dataReceived = false ∧ t.busy = false ∧ (∀ b ∈ t.key.1, b = 0) ∧
      (∀ b ∈ t.callsign, b = 0)

/-! ## The response encoder -/

/-- Rule R244. -/
def Obligations.TxclearEmptiesTheResponse : Prop :=
  decodeWord 0x00000005 = .instr .txclear ∧
  ∀ s : State, exec .txclear s = .next
    { s with
      txod := []
      txodlen := 0
      txvalid := false
      txbuf := []
      txlen := 0
      busy := false
      done := true
      cmderr := false
      cerr := 0 }

/-- Rules R245 to R248: a PUSH that does not fit appends nothing, not even part; one that fits appends the low bytes of
OPERAND, least significant first, and drops the transmit frame. The length of TXOD is what rule R53 (j) says it is. -/
def Obligations.PushAppendsLittleEndian : Prop :=
  decodeWord 0x00000006 = .instr .push8 ∧ decodeWord 0x00000007 = .instr .push16 ∧
  decodeWord 0x00000008 = .instr .push32 ∧
  ∀ s : State,
    (s.cfg.maxOptDataLength < s.txodlen.toNat + 1 → exec .push8 s = .next (s.refusedWith 0x04)) ∧
    (s.cfg.maxOptDataLength < s.txodlen.toNat + 2 → exec .push16 s = .next (s.refusedWith 0x04)) ∧
    (s.cfg.maxOptDataLength < s.txodlen.toNat + 4 → exec .push32 s = .next (s.refusedWith 0x04)) ∧
    (s.txod.length = s.txodlen.toNat →
      (s.txodlen.toNat + 1 ≤ s.cfg.maxOptDataLength →
        exec .push8 s = .next { s.completed with
          txod := s.txod ++ [s.operand.extractLsb' 0 8]
          txodlen := s.txodlen + 1, txvalid := false, txbuf := [], txlen := 0 }) ∧
      (s.txodlen.toNat + 2 ≤ s.cfg.maxOptDataLength →
        exec .push16 s = .next { s.completed with
          txod := s.txod ++ [s.operand.extractLsb' 0 8, s.operand.extractLsb' 8 8]
          txodlen := s.txodlen + 2, txvalid := false, txbuf := [], txlen := 0 }) ∧
      (s.txodlen.toNat + 4 ≤ s.cfg.maxOptDataLength →
        exec .push32 s = .next { s.completed with
          txod := s.txod ++ [s.operand.extractLsb' 0 8, s.operand.extractLsb' 8 8,
            s.operand.extractLsb' 16 8, s.operand.extractLsb' 24 8]
          txodlen := s.txodlen + 4, txvalid := false, txbuf := [], txlen := 0 }))

/-- What the spec derives in rule R74: two PUSH16 are indistinguishable from one PUSH32 of lo | hi << 16. -/
def Obligations.TwoPush16EqualOnePush32 : Prop :=
  ∀ (s a b c : State) (lo hi : Half), s.txod.length = s.txodlen.toNat →
    s.txodlen.toNat + 4 ≤ s.cfg.maxOptDataLength →
    exec .push16 { s with operand := lo.setWidth 32 } = .next a →
    exec .push16 { a with operand := hi.setWidth 32 } = .next b →
    exec .push32 { s with operand := hi ++ lo } = .next c →
    b = { c with operand := hi.setWidth 32 }

/-- Rules R249 and R254: the length, its refusals, and that FRAMELEN changes nothing but FLEN. -/
def Obligations.FramelenSizesTheFrame : Prop :=
  decodeWord 0x00000003 = .instr (.framelen false) ∧ decodeWord 0x00000103 = .instr (.framelen true) ∧
  ∀ s : State,
    (s.CslenLegal → exec (.framelen false) s = .next { s.completed with
      flen := BitVec.ofNat 16 (s.cslen.toNat + 1 + s.txodlen.toNat) }) ∧
    (s.CslenLegal → s.txodlen.toNat ≤ 255 → 1 + s.txodlen.toNat ≤ s.cfg.maxN →
      exec (.framelen true) s = .next { s.completed with
        flen := BitVec.ofNat 16 (s.cslen.toNat + 1 + 16 * ((1 + s.txodlen.toNat + 15) / 16)) }) ∧
    (∀ enc, ¬ s.CslenLegal → exec (.framelen enc) s = .next (s.refusedWith 0x02)) ∧
    (s.CslenLegal → (255 < s.txodlen.toNat ∨ s.cfg.maxN < 1 + s.txodlen.toNat) →
      exec (.framelen true) s = .next (s.refusedWith 0x05))

/-- Rules R250 and R256, ENC = 0. -/
def Obligations.EncodeWritesThePlainFrame : Prop :=
  ∀ s : State, s.CslenLegal → ¬ (s.dataReceived = true ∧ s.parsed = true ∧ s.parseOk = false) →
    exec (.encode false) s = .next { s.completed with
      txbuf := s.callsign.take s.cslen.toNat ++ [s.respid] ++ s.txod.take s.txodlen.toNat
      txlen := BitVec.ofNat 16 (s.cslen.toNat + 1 + s.txodlen.toNat)
      txvalid := true }

/-- Rules R250, R255 and R256, ENC = 1: nb = ceil16(1 + N) / 16 blocks of [N] ++ data ++ zeros, each encrypted on its
own. -/
def Obligations.EncodeWritesTheEncryptedFrame : Prop :=
  ∀ (s : State) (nb : Nat), s.CslenLegal → ¬ (s.dataReceived = true ∧ s.parsed = true ∧ s.parseOk = false) →
    s.keyen = true → s.txodlen.toNat ≤ 255 → 1 + s.txodlen.toNat ≤ s.cfg.maxN →
    nb = (1 + s.txodlen.toNat + 15) / 16 →
    exec (.encode true) s = .next { s.completed with
      txbuf := s.callsign.take s.cslen.toNat ++ [s.respid] ++
        mapBlocks (aesEnc s.cfg.cipher s.key) nb
          ([BitVec.ofNat 8 s.txodlen.toNat] ++ s.txod.take s.txodlen.toNat ++
            List.replicate (16 * nb - 1 - s.txodlen.toNat) 0)
      txlen := BitVec.ofNat 16 (s.cslen.toNat + 1 + 16 * nb)
      txvalid := true
      aescnt := s.aescnt + BitVec.ofNat 32 nb }

/-- Rule R257 (with R252 and R253): the order of ENCODE's refusals, and that each clears the transmit frame and changes
nothing else. -/
def Obligations.EncodeRefusalsInOrder : Prop :=
  ∀ (s u : State) (enc : Bool), u = { s with txvalid := false, txbuf := [], txlen := 0 } →
    (¬ s.CslenLegal → exec (.encode enc) s = .next (u.refusedWith 0x02)) ∧
    (s.CslenLegal → s.dataReceived = true → s.parsed = true → s.parseOk = false →
      exec (.encode enc) s = .next (u.refusedWith 0x06)) ∧
    (s.CslenLegal → ¬ (s.dataReceived = true ∧ s.parsed = true ∧ s.parseOk = false) → s.keyen = false →
      exec (.encode true) s = .next (u.refusedWith 0x02)) ∧
    (s.CslenLegal → ¬ (s.dataReceived = true ∧ s.parsed = true ∧ s.parseOk = false) → s.keyen = true →
      (255 < s.txodlen.toNat ∨ s.cfg.maxN < 1 + s.txodlen.toNat) →
      exec (.encode true) s = .next (u.refusedWith 0x05))

/-- Rule R42: FLEN is the length of the frame ENCODE builds, and of the bytes it writes. -/
def Obligations.FramelenIsTheLengthEncodeWrites : Prop :=
  ∀ (s t u : State) (enc : Bool), Memory.wf s = true → exec (.framelen enc) s = .next t →
    exec (.encode enc) s = .next u → u.cmderr = false →
    t.cmderr = false ∧ u.txlen = t.flen ∧ u.txbuf.length = t.flen.toNat

/-! ## Round trips -/

/-- What the spec derives in rule R258: a plain response, delivered to a block with the same callsign, is parsed back. -/
def Obligations.PlainRoundTrip : Prop :=
  ∀ s t r : State, Memory.wf s = true → exec (.encode false) s = .next t → t.cmderr = false →
    s.respid.toNat < s.cfg.privateOffset →
    r.cfg = s.cfg → r.cslen = s.cslen → r.callsign = s.callsign →
    r.rxen = true → r.dataReceived = false → r.busy = false → r.parsed = false →
    ∃ u, exec .parse (deliver t.txbuf r) = .next u ∧ u.cmderr = false ∧ u.parseOk = true ∧
      u.fid = s.respid ∧ u.mode = .plaintext ∧ u.optlen = s.txodlen ∧ u.optdata = s.txod ∧
      u.aescnt = r.aescnt ∧ t.aescnt = s.aescnt

/-- What the spec derives in rule R258, the converse: a parsed plaintext frame whose last callsign byte is the stored one is
reproduced by encoding what was parsed. -/
def Obligations.ParsedPlainFrameIsReencoded : Prop :=
  ∀ s t r : State, s.ParseEnabled → Memory.wf s = true → exec .parse s = .next t → t.parseOk = true →
    t.mode = .plaintext → bufByte s.rxbuf (s.cslen.toNat - 1) = bufByte s.callsign (s.cslen.toNat - 1) →
    r.cfg = s.cfg → r.cslen = s.cslen → r.callsign = s.callsign → r.respid = t.fid →
    r.txod = t.optdata → r.txodlen = t.optlen →
    ¬ (r.dataReceived = true ∧ r.parsed = true ∧ r.parseOk = false) →
    ∃ u, exec (.encode false) r = .next u ∧ u.txvalid = true ∧ u.txbuf = s.rxbuf ∧ u.txlen = s.rxlen

/-- What the spec derives in rule R223: an encrypted response, delivered to a block with the same callsign and key, is
decrypted back. It holds for both ciphers of log entry 3, the open family of permutations and the toy cipher of the test
configuration, and rests on nothing of either but the inverse property of rule R9. -/
def Obligations.EncryptedRoundTrip : Prop :=
  ∀ s t r : State, Memory.wf s = true → exec (.encode true) s = .next t → t.cmderr = false →
    PrivateFid s.cfg s.respid →
    r.cfg = s.cfg → r.cslen = s.cslen → r.callsign = s.callsign → r.key = s.key → r.keyen = true →
    r.rxen = true → r.dataReceived = false → r.busy = false → r.parsed = false →
    ∃ u, exec .parse (deliver t.txbuf r) = .next u ∧ u.cmderr = false ∧ u.parseOk = true ∧
      u.fid = s.respid ∧ u.mode = .encrypted ∧ u.optlen = s.txodlen ∧ u.optdata = s.txod
end

