-- ==== Sys2Proof/Laws/State.lean ====
section
/-! SUPPORT. One lemma per field per named update of the state, and one per length or buffer view that the updates
inside PARSE leave alone. -/

namespace Sys2Proof.Machine

variable (s : State)

/-! The schedule. -/

@[simp] theorem withPending_self : s.withPending s.env.pending = s := rfl
@[simp] theorem withPending_cfg (l : List AgentStep) : (s.withPending l).cfg = s.cfg := rfl
@[simp] theorem withPending_rxen (l : List AgentStep) : (s.withPending l).rxen = s.rxen := rfl
@[simp] theorem withPending_keyen (l : List AgentStep) : (s.withPending l).keyen = s.keyen := rfl
@[simp] theorem withPending_ieRx (l : List AgentStep) : (s.withPending l).ieRx = s.ieRx := rfl
@[simp] theorem withPending_ieDone (l : List AgentStep) : (s.withPending l).ieDone = s.ieDone := rfl
@[simp] theorem withPending_cmdlatch (l : List AgentStep) : (s.withPending l).cmdlatch = s.cmdlatch := rfl
@[simp] theorem withPending_busy (l : List AgentStep) : (s.withPending l).busy = s.busy := rfl
@[simp] theorem withPending_done (l : List AgentStep) : (s.withPending l).done = s.done := rfl
@[simp] theorem withPending_cmderr (l : List AgentStep) : (s.withPending l).cmderr = s.cmderr := rfl
@[simp] theorem withPending_hazard (l : List AgentStep) : (s.withPending l).hazard = s.hazard := rfl
@[simp] theorem withPending_dataReceived (l : List AgentStep) : (s.withPending l).dataReceived = s.dataReceived := rfl
@[simp] theorem withPending_txvalid (l : List AgentStep) : (s.withPending l).txvalid = s.txvalid := rfl
@[simp] theorem withPending_cerr (l : List AgentStep) : (s.withPending l).cerr = s.cerr := rfl
@[simp] theorem withPending_parsed (l : List AgentStep) : (s.withPending l).parsed = s.parsed := rfl
@[simp] theorem withPending_parseOk (l : List AgentStep) : (s.withPending l).parseOk = s.parseOk := rfl
@[simp] theorem withPending_counted (l : List AgentStep) : (s.withPending l).counted = s.counted := rfl
@[simp] theorem withPending_mode (l : List AgentStep) : (s.withPending l).mode = s.mode := rfl
@[simp] theorem withPending_fidvalid (l : List AgentStep) : (s.withPending l).fidvalid = s.fidvalid := rfl
@[simp] theorem withPending_optvalid (l : List AgentStep) : (s.withPending l).optvalid = s.optvalid := rfl
@[simp] theorem withPending_ferr (l : List AgentStep) : (s.withPending l).ferr = s.ferr := rfl
@[simp] theorem withPending_operand (l : List AgentStep) : (s.withPending l).operand = s.operand := rfl
@[simp] theorem withPending_cslen (l : List AgentStep) : (s.withPending l).cslen = s.cslen := rfl
@[simp] theorem withPending_callsign (l : List AgentStep) : (s.withPending l).callsign = s.callsign := rfl
@[simp] theorem withPending_key (l : List AgentStep) : (s.withPending l).key = s.key := rfl
@[simp] theorem withPending_rxbuf (l : List AgentStep) : (s.withPending l).rxbuf = s.rxbuf := rfl
@[simp] theorem withPending_rxlen (l : List AgentStep) : (s.withPending l).rxlen = s.rxlen := rfl
@[simp] theorem withPending_fid (l : List AgentStep) : (s.withPending l).fid = s.fid := rfl
@[simp] theorem withPending_optlen (l : List AgentStep) : (s.withPending l).optlen = s.optlen := rfl
@[simp] theorem withPending_optdata (l : List AgentStep) : (s.withPending l).optdata = s.optdata := rfl
@[simp] theorem withPending_respid (l : List AgentStep) : (s.withPending l).respid = s.respid := rfl
@[simp] theorem withPending_txod (l : List AgentStep) : (s.withPending l).txod = s.txod := rfl
@[simp] theorem withPending_txodlen (l : List AgentStep) : (s.withPending l).txodlen = s.txodlen := rfl
@[simp] theorem withPending_flen (l : List AgentStep) : (s.withPending l).flen = s.flen := rfl
@[simp] theorem withPending_txbuf (l : List AgentStep) : (s.withPending l).txbuf = s.txbuf := rfl
@[simp] theorem withPending_txlen (l : List AgentStep) : (s.withPending l).txlen = s.txlen := rfl
@[simp] theorem withPending_aescnt (l : List AgentStep) : (s.withPending l).aescnt = s.aescnt := rfl
@[simp] theorem withPending_evlog (l : List AgentStep) : (s.withPending l).evlog = s.evlog := rfl
@[simp] theorem withPending_env (l : List AgentStep) : (s.withPending l).env = { s.env with pending := l } := rfl

/-! Emit (rule R11). -/

@[simp] theorem emit_cfg (e : Event) : (emit e s).cfg = s.cfg := rfl
@[simp] theorem emit_rxen (e : Event) : (emit e s).rxen = s.rxen := rfl
@[simp] theorem emit_keyen (e : Event) : (emit e s).keyen = s.keyen := rfl
@[simp] theorem emit_ieRx (e : Event) : (emit e s).ieRx = s.ieRx := rfl
@[simp] theorem emit_ieDone (e : Event) : (emit e s).ieDone = s.ieDone := rfl
@[simp] theorem emit_cmdlatch (e : Event) : (emit e s).cmdlatch = s.cmdlatch := rfl
@[simp] theorem emit_busy (e : Event) : (emit e s).busy = s.busy := rfl
@[simp] theorem emit_done (e : Event) : (emit e s).done = s.done := rfl
@[simp] theorem emit_cmderr (e : Event) : (emit e s).cmderr = s.cmderr := rfl
@[simp] theorem emit_hazard (e : Event) : (emit e s).hazard = s.hazard := rfl
@[simp] theorem emit_dataReceived (e : Event) : (emit e s).dataReceived = s.dataReceived := rfl
@[simp] theorem emit_txvalid (e : Event) : (emit e s).txvalid = s.txvalid := rfl
@[simp] theorem emit_cerr (e : Event) : (emit e s).cerr = s.cerr := rfl
@[simp] theorem emit_parsed (e : Event) : (emit e s).parsed = s.parsed := rfl
@[simp] theorem emit_parseOk (e : Event) : (emit e s).parseOk = s.parseOk := rfl
@[simp] theorem emit_counted (e : Event) : (emit e s).counted = s.counted := rfl
@[simp] theorem emit_mode (e : Event) : (emit e s).mode = s.mode := rfl
@[simp] theorem emit_fidvalid (e : Event) : (emit e s).fidvalid = s.fidvalid := rfl
@[simp] theorem emit_optvalid (e : Event) : (emit e s).optvalid = s.optvalid := rfl
@[simp] theorem emit_ferr (e : Event) : (emit e s).ferr = s.ferr := rfl
@[simp] theorem emit_operand (e : Event) : (emit e s).operand = s.operand := rfl
@[simp] theorem emit_cslen (e : Event) : (emit e s).cslen = s.cslen := rfl
@[simp] theorem emit_callsign (e : Event) : (emit e s).callsign = s.callsign := rfl
@[simp] theorem emit_key (e : Event) : (emit e s).key = s.key := rfl
@[simp] theorem emit_rxbuf (e : Event) : (emit e s).rxbuf = s.rxbuf := rfl
@[simp] theorem emit_rxlen (e : Event) : (emit e s).rxlen = s.rxlen := rfl
@[simp] theorem emit_fid (e : Event) : (emit e s).fid = s.fid := rfl
@[simp] theorem emit_optlen (e : Event) : (emit e s).optlen = s.optlen := rfl
@[simp] theorem emit_optdata (e : Event) : (emit e s).optdata = s.optdata := rfl
@[simp] theorem emit_respid (e : Event) : (emit e s).respid = s.respid := rfl
@[simp] theorem emit_txod (e : Event) : (emit e s).txod = s.txod := rfl
@[simp] theorem emit_txodlen (e : Event) : (emit e s).txodlen = s.txodlen := rfl
@[simp] theorem emit_flen (e : Event) : (emit e s).flen = s.flen := rfl
@[simp] theorem emit_txbuf (e : Event) : (emit e s).txbuf = s.txbuf := rfl
@[simp] theorem emit_txlen (e : Event) : (emit e s).txlen = s.txlen := rfl
@[simp] theorem emit_aescnt (e : Event) : (emit e s).aescnt = s.aescnt := rfl
@[simp] theorem emit_evlog (e : Event) : (emit e s).evlog = s.evlog ++ [e] := rfl
@[simp] theorem emit_env (e : Event) : (emit e s).env = s.env := rfl

/-! The completion step (rule R151). -/

@[simp] theorem complete_cfg (c : CmdError) : (complete c s).cfg = s.cfg := rfl
@[simp] theorem complete_rxen (c : CmdError) : (complete c s).rxen = s.rxen := rfl
@[simp] theorem complete_keyen (c : CmdError) : (complete c s).keyen = s.keyen := rfl
@[simp] theorem complete_ieRx (c : CmdError) : (complete c s).ieRx = s.ieRx := rfl
@[simp] theorem complete_ieDone (c : CmdError) : (complete c s).ieDone = s.ieDone := rfl
@[simp] theorem complete_cmdlatch (c : CmdError) : (complete c s).cmdlatch = s.cmdlatch := rfl
@[simp] theorem complete_busy (c : CmdError) : (complete c s).busy = false := rfl
@[simp] theorem complete_done (c : CmdError) : (complete c s).done = true := rfl
@[simp] theorem complete_cmderr (c : CmdError) : (complete c s).cmderr = (cerrCode c != 0) := rfl
@[simp] theorem complete_hazard (c : CmdError) : (complete c s).hazard = s.hazard := rfl
@[simp] theorem complete_dataReceived (c : CmdError) : (complete c s).dataReceived = s.dataReceived := rfl
@[simp] theorem complete_txvalid (c : CmdError) : (complete c s).txvalid = s.txvalid := rfl
@[simp] theorem complete_cerr (c : CmdError) : (complete c s).cerr = cerrCode c := rfl
@[simp] theorem complete_parsed (c : CmdError) : (complete c s).parsed = s.parsed := rfl
@[simp] theorem complete_parseOk (c : CmdError) : (complete c s).parseOk = s.parseOk := rfl
@[simp] theorem complete_counted (c : CmdError) : (complete c s).counted = s.counted := rfl
@[simp] theorem complete_mode (c : CmdError) : (complete c s).mode = s.mode := rfl
@[simp] theorem complete_fidvalid (c : CmdError) : (complete c s).fidvalid = s.fidvalid := rfl
@[simp] theorem complete_optvalid (c : CmdError) : (complete c s).optvalid = s.optvalid := rfl
@[simp] theorem complete_ferr (c : CmdError) : (complete c s).ferr = s.ferr := rfl
@[simp] theorem complete_operand (c : CmdError) : (complete c s).operand = s.operand := rfl
@[simp] theorem complete_cslen (c : CmdError) : (complete c s).cslen = s.cslen := rfl
@[simp] theorem complete_callsign (c : CmdError) : (complete c s).callsign = s.callsign := rfl
@[simp] theorem complete_key (c : CmdError) : (complete c s).key = s.key := rfl
@[simp] theorem complete_rxbuf (c : CmdError) : (complete c s).rxbuf = s.rxbuf := rfl
@[simp] theorem complete_rxlen (c : CmdError) : (complete c s).rxlen = s.rxlen := rfl
@[simp] theorem complete_fid (c : CmdError) : (complete c s).fid = s.fid := rfl
@[simp] theorem complete_optlen (c : CmdError) : (complete c s).optlen = s.optlen := rfl
@[simp] theorem complete_optdata (c : CmdError) : (complete c s).optdata = s.optdata := rfl
@[simp] theorem complete_respid (c : CmdError) : (complete c s).respid = s.respid := rfl
@[simp] theorem complete_txod (c : CmdError) : (complete c s).txod = s.txod := rfl
@[simp] theorem complete_txodlen (c : CmdError) : (complete c s).txodlen = s.txodlen := rfl
@[simp] theorem complete_flen (c : CmdError) : (complete c s).flen = s.flen := rfl
@[simp] theorem complete_txbuf (c : CmdError) : (complete c s).txbuf = s.txbuf := rfl
@[simp] theorem complete_txlen (c : CmdError) : (complete c s).txlen = s.txlen := rfl
@[simp] theorem complete_aescnt (c : CmdError) : (complete c s).aescnt = s.aescnt := rfl
@[simp] theorem complete_evlog (c : CmdError) : (complete c s).evlog = s.evlog := rfl
@[simp] theorem complete_env (c : CmdError) : (complete c s).env = s.env := rfl

/-! Reject (rule R312). -/

@[simp] theorem reject_cfg (e : FrameError) : (reject e s).cfg = s.cfg := rfl
@[simp] theorem reject_rxen (e : FrameError) : (reject e s).rxen = s.rxen := rfl
@[simp] theorem reject_keyen (e : FrameError) : (reject e s).keyen = s.keyen := rfl
@[simp] theorem reject_ieRx (e : FrameError) : (reject e s).ieRx = s.ieRx := rfl
@[simp] theorem reject_ieDone (e : FrameError) : (reject e s).ieDone = s.ieDone := rfl
@[simp] theorem reject_cmdlatch (e : FrameError) : (reject e s).cmdlatch = s.cmdlatch := rfl
@[simp] theorem reject_busy (e : FrameError) : (reject e s).busy = s.busy := rfl
@[simp] theorem reject_done (e : FrameError) : (reject e s).done = s.done := rfl
@[simp] theorem reject_cmderr (e : FrameError) : (reject e s).cmderr = s.cmderr := rfl
@[simp] theorem reject_hazard (e : FrameError) : (reject e s).hazard = s.hazard := rfl
@[simp] theorem reject_dataReceived (e : FrameError) : (reject e s).dataReceived = s.dataReceived := rfl
@[simp] theorem reject_txvalid (e : FrameError) : (reject e s).txvalid = s.txvalid := rfl
@[simp] theorem reject_cerr (e : FrameError) : (reject e s).cerr = s.cerr := rfl
@[simp] theorem reject_parsed (e : FrameError) : (reject e s).parsed = true := rfl
@[simp] theorem reject_parseOk (e : FrameError) : (reject e s).parseOk = false := rfl
@[simp] theorem reject_counted (e : FrameError) : (reject e s).counted = true := rfl
@[simp] theorem reject_mode (e : FrameError) : (reject e s).mode = s.mode := rfl
@[simp] theorem reject_fidvalid (e : FrameError) : (reject e s).fidvalid = s.fidvalid := rfl
@[simp] theorem reject_optvalid (e : FrameError) : (reject e s).optvalid = false := rfl
@[simp] theorem reject_ferr (e : FrameError) : (reject e s).ferr = ferrCode e := rfl
@[simp] theorem reject_operand (e : FrameError) : (reject e s).operand = s.operand := rfl
@[simp] theorem reject_cslen (e : FrameError) : (reject e s).cslen = s.cslen := rfl
@[simp] theorem reject_callsign (e : FrameError) : (reject e s).callsign = s.callsign := rfl
@[simp] theorem reject_key (e : FrameError) : (reject e s).key = s.key := rfl
@[simp] theorem reject_rxbuf (e : FrameError) : (reject e s).rxbuf = s.rxbuf := rfl
@[simp] theorem reject_rxlen (e : FrameError) : (reject e s).rxlen = s.rxlen := rfl
@[simp] theorem reject_fid (e : FrameError) : (reject e s).fid = s.fid := rfl
@[simp] theorem reject_optlen (e : FrameError) : (reject e s).optlen = s.optlen := rfl
@[simp] theorem reject_optdata (e : FrameError) : (reject e s).optdata = [] := rfl
@[simp] theorem reject_respid (e : FrameError) : (reject e s).respid = s.respid := rfl
@[simp] theorem reject_txod (e : FrameError) : (reject e s).txod = s.txod := rfl
@[simp] theorem reject_txodlen (e : FrameError) : (reject e s).txodlen = s.txodlen := rfl
@[simp] theorem reject_flen (e : FrameError) : (reject e s).flen = s.flen := rfl
@[simp] theorem reject_txbuf (e : FrameError) : (reject e s).txbuf = s.txbuf := rfl
@[simp] theorem reject_txlen (e : FrameError) : (reject e s).txlen = s.txlen := rfl
@[simp] theorem reject_aescnt (e : FrameError) : (reject e s).aescnt = s.aescnt := rfl
@[simp] theorem reject_evlog (e : FrameError) : (reject e s).evlog = s.evlog ++ [.frameInvalid (ferrCode e)] := rfl
@[simp] theorem reject_env (e : FrameError) : (reject e s).env = s.env := rfl

/-! The successful end of PARSE (rule R182). -/

@[simp] theorem accept_cfg : (accept s).cfg = s.cfg := rfl
@[simp] theorem accept_rxen : (accept s).rxen = s.rxen := rfl
@[simp] theorem accept_keyen : (accept s).keyen = s.keyen := rfl
@[simp] theorem accept_ieRx : (accept s).ieRx = s.ieRx := rfl
@[simp] theorem accept_ieDone : (accept s).ieDone = s.ieDone := rfl
@[simp] theorem accept_cmdlatch : (accept s).cmdlatch = s.cmdlatch := rfl
@[simp] theorem accept_busy : (accept s).busy = s.busy := rfl
@[simp] theorem accept_done : (accept s).done = s.done := rfl
@[simp] theorem accept_cmderr : (accept s).cmderr = s.cmderr := rfl
@[simp] theorem accept_hazard : (accept s).hazard = s.hazard := rfl
@[simp] theorem accept_dataReceived : (accept s).dataReceived = s.dataReceived := rfl
@[simp] theorem accept_txvalid : (accept s).txvalid = s.txvalid := rfl
@[simp] theorem accept_cerr : (accept s).cerr = s.cerr := rfl
@[simp] theorem accept_parsed : (accept s).parsed = true := rfl
@[simp] theorem accept_parseOk : (accept s).parseOk = true := rfl
@[simp] theorem accept_counted : (accept s).counted = s.counted := rfl
@[simp] theorem accept_mode : (accept s).mode = s.mode := rfl
@[simp] theorem accept_fidvalid : (accept s).fidvalid = s.fidvalid := rfl
@[simp] theorem accept_optvalid : (accept s).optvalid = true := rfl
@[simp] theorem accept_ferr : (accept s).ferr = 0 := rfl
@[simp] theorem accept_operand : (accept s).operand = s.operand := rfl
@[simp] theorem accept_cslen : (accept s).cslen = s.cslen := rfl
@[simp] theorem accept_callsign : (accept s).callsign = s.callsign := rfl
@[simp] theorem accept_key : (accept s).key = s.key := rfl
@[simp] theorem accept_rxbuf : (accept s).rxbuf = s.rxbuf := rfl
@[simp] theorem accept_rxlen : (accept s).rxlen = s.rxlen := rfl
@[simp] theorem accept_fid : (accept s).fid = s.fid := rfl
@[simp] theorem accept_optlen : (accept s).optlen = s.optlen := rfl
@[simp] theorem accept_optdata : (accept s).optdata = s.optdata := rfl
@[simp] theorem accept_respid : (accept s).respid = s.respid := rfl
@[simp] theorem accept_txod : (accept s).txod = s.txod := rfl
@[simp] theorem accept_txodlen : (accept s).txodlen = s.txodlen := rfl
@[simp] theorem accept_flen : (accept s).flen = s.flen := rfl
@[simp] theorem accept_txbuf : (accept s).txbuf = s.txbuf := rfl
@[simp] theorem accept_txlen : (accept s).txlen = s.txlen := rfl
@[simp] theorem accept_aescnt : (accept s).aescnt = s.aescnt := rfl
@[simp] theorem accept_evlog : (accept s).evlog = s.evlog := rfl
@[simp] theorem accept_env : (accept s).env = s.env := rfl

/-! Clearing the frame state (rule R191). -/

@[simp] theorem clearFrame_cfg : (clearFrame s).cfg = s.cfg := rfl
@[simp] theorem clearFrame_rxen : (clearFrame s).rxen = s.rxen := rfl
@[simp] theorem clearFrame_keyen : (clearFrame s).keyen = s.keyen := rfl
@[simp] theorem clearFrame_ieRx : (clearFrame s).ieRx = s.ieRx := rfl
@[simp] theorem clearFrame_ieDone : (clearFrame s).ieDone = s.ieDone := rfl
@[simp] theorem clearFrame_cmdlatch : (clearFrame s).cmdlatch = s.cmdlatch := rfl
@[simp] theorem clearFrame_busy : (clearFrame s).busy = s.busy := rfl
@[simp] theorem clearFrame_done : (clearFrame s).done = s.done := rfl
@[simp] theorem clearFrame_cmderr : (clearFrame s).cmderr = s.cmderr := rfl
@[simp] theorem clearFrame_hazard : (clearFrame s).hazard = s.hazard := rfl
@[simp] theorem clearFrame_dataReceived : (clearFrame s).dataReceived = false := rfl
@[simp] theorem clearFrame_txvalid : (clearFrame s).txvalid = s.txvalid := rfl
@[simp] theorem clearFrame_cerr : (clearFrame s).cerr = s.cerr := rfl
@[simp] theorem clearFrame_parsed : (clearFrame s).parsed = false := rfl
@[simp] theorem clearFrame_parseOk : (clearFrame s).parseOk = false := rfl
@[simp] theorem clearFrame_counted : (clearFrame s).counted = false := rfl
@[simp] theorem clearFrame_mode : (clearFrame s).mode = .plaintext := rfl
@[simp] theorem clearFrame_fidvalid : (clearFrame s).fidvalid = false := rfl
@[simp] theorem clearFrame_optvalid : (clearFrame s).optvalid = false := rfl
@[simp] theorem clearFrame_ferr : (clearFrame s).ferr = 0 := rfl
@[simp] theorem clearFrame_operand : (clearFrame s).operand = s.operand := rfl
@[simp] theorem clearFrame_cslen : (clearFrame s).cslen = s.cslen := rfl
@[simp] theorem clearFrame_callsign : (clearFrame s).callsign = s.callsign := rfl
@[simp] theorem clearFrame_key : (clearFrame s).key = s.key := rfl
@[simp] theorem clearFrame_rxbuf : (clearFrame s).rxbuf = [] := rfl
@[simp] theorem clearFrame_rxlen : (clearFrame s).rxlen = 0 := rfl
@[simp] theorem clearFrame_fid : (clearFrame s).fid = 0 := rfl
@[simp] theorem clearFrame_optlen : (clearFrame s).optlen = 0 := rfl
@[simp] theorem clearFrame_optdata : (clearFrame s).optdata = [] := rfl
@[simp] theorem clearFrame_respid : (clearFrame s).respid = s.respid := rfl
@[simp] theorem clearFrame_txod : (clearFrame s).txod = s.txod := rfl
@[simp] theorem clearFrame_txodlen : (clearFrame s).txodlen = s.txodlen := rfl
@[simp] theorem clearFrame_flen : (clearFrame s).flen = s.flen := rfl
@[simp] theorem clearFrame_txbuf : (clearFrame s).txbuf = s.txbuf := rfl
@[simp] theorem clearFrame_txlen : (clearFrame s).txlen = s.txlen := rfl
@[simp] theorem clearFrame_aescnt : (clearFrame s).aescnt = s.aescnt := rfl
@[simp] theorem clearFrame_evlog : (clearFrame s).evlog = s.evlog := rfl
@[simp] theorem clearFrame_env : (clearFrame s).env = s.env := rfl

/-! Latching FID (rule R179). -/

@[simp] theorem latchFid_cfg (f : Byte) : (latchFid f s).cfg = s.cfg := rfl
@[simp] theorem latchFid_rxen (f : Byte) : (latchFid f s).rxen = s.rxen := rfl
@[simp] theorem latchFid_keyen (f : Byte) : (latchFid f s).keyen = s.keyen := rfl
@[simp] theorem latchFid_ieRx (f : Byte) : (latchFid f s).ieRx = s.ieRx := rfl
@[simp] theorem latchFid_ieDone (f : Byte) : (latchFid f s).ieDone = s.ieDone := rfl
@[simp] theorem latchFid_cmdlatch (f : Byte) : (latchFid f s).cmdlatch = s.cmdlatch := rfl
@[simp] theorem latchFid_busy (f : Byte) : (latchFid f s).busy = s.busy := rfl
@[simp] theorem latchFid_done (f : Byte) : (latchFid f s).done = s.done := rfl
@[simp] theorem latchFid_cmderr (f : Byte) : (latchFid f s).cmderr = s.cmderr := rfl
@[simp] theorem latchFid_hazard (f : Byte) : (latchFid f s).hazard = s.hazard := rfl
@[simp] theorem latchFid_dataReceived (f : Byte) : (latchFid f s).dataReceived = s.dataReceived := rfl
@[simp] theorem latchFid_txvalid (f : Byte) : (latchFid f s).txvalid = s.txvalid := rfl
@[simp] theorem latchFid_cerr (f : Byte) : (latchFid f s).cerr = s.cerr := rfl
@[simp] theorem latchFid_parsed (f : Byte) : (latchFid f s).parsed = s.parsed := rfl
@[simp] theorem latchFid_parseOk (f : Byte) : (latchFid f s).parseOk = s.parseOk := rfl
@[simp] theorem latchFid_counted (f : Byte) : (latchFid f s).counted = s.counted := rfl
@[simp] theorem latchFid_mode (f : Byte) : (latchFid f s).mode = s.mode := rfl
@[simp] theorem latchFid_fidvalid (f : Byte) : (latchFid f s).fidvalid = true := rfl
@[simp] theorem latchFid_optvalid (f : Byte) : (latchFid f s).optvalid = s.optvalid := rfl
@[simp] theorem latchFid_ferr (f : Byte) : (latchFid f s).ferr = s.ferr := rfl
@[simp] theorem latchFid_operand (f : Byte) : (latchFid f s).operand = s.operand := rfl
@[simp] theorem latchFid_cslen (f : Byte) : (latchFid f s).cslen = s.cslen := rfl
@[simp] theorem latchFid_callsign (f : Byte) : (latchFid f s).callsign = s.callsign := rfl
@[simp] theorem latchFid_key (f : Byte) : (latchFid f s).key = s.key := rfl
@[simp] theorem latchFid_rxbuf (f : Byte) : (latchFid f s).rxbuf = s.rxbuf := rfl
@[simp] theorem latchFid_rxlen (f : Byte) : (latchFid f s).rxlen = s.rxlen := rfl
@[simp] theorem latchFid_fid (f : Byte) : (latchFid f s).fid = f := rfl
@[simp] theorem latchFid_optlen (f : Byte) : (latchFid f s).optlen = s.optlen := rfl
@[simp] theorem latchFid_optdata (f : Byte) : (latchFid f s).optdata = s.optdata := rfl
@[simp] theorem latchFid_respid (f : Byte) : (latchFid f s).respid = s.respid := rfl
@[simp] theorem latchFid_txod (f : Byte) : (latchFid f s).txod = s.txod := rfl
@[simp] theorem latchFid_txodlen (f : Byte) : (latchFid f s).txodlen = s.txodlen := rfl
@[simp] theorem latchFid_flen (f : Byte) : (latchFid f s).flen = s.flen := rfl
@[simp] theorem latchFid_txbuf (f : Byte) : (latchFid f s).txbuf = s.txbuf := rfl
@[simp] theorem latchFid_txlen (f : Byte) : (latchFid f s).txlen = s.txlen := rfl
@[simp] theorem latchFid_aescnt (f : Byte) : (latchFid f s).aescnt = s.aescnt := rfl
@[simp] theorem latchFid_evlog (f : Byte) : (latchFid f s).evlog = s.evlog := rfl
@[simp] theorem latchFid_env (f : Byte) : (latchFid f s).env = s.env := rfl

/-! Setting MODE (rule R180). -/

@[simp] theorem setMode_cfg (m : GateState) : (setMode m s).cfg = s.cfg := rfl
@[simp] theorem setMode_rxen (m : GateState) : (setMode m s).rxen = s.rxen := rfl
@[simp] theorem setMode_keyen (m : GateState) : (setMode m s).keyen = s.keyen := rfl
@[simp] theorem setMode_ieRx (m : GateState) : (setMode m s).ieRx = s.ieRx := rfl
@[simp] theorem setMode_ieDone (m : GateState) : (setMode m s).ieDone = s.ieDone := rfl
@[simp] theorem setMode_cmdlatch (m : GateState) : (setMode m s).cmdlatch = s.cmdlatch := rfl
@[simp] theorem setMode_busy (m : GateState) : (setMode m s).busy = s.busy := rfl
@[simp] theorem setMode_done (m : GateState) : (setMode m s).done = s.done := rfl
@[simp] theorem setMode_cmderr (m : GateState) : (setMode m s).cmderr = s.cmderr := rfl
@[simp] theorem setMode_hazard (m : GateState) : (setMode m s).hazard = s.hazard := rfl
@[simp] theorem setMode_dataReceived (m : GateState) : (setMode m s).dataReceived = s.dataReceived := rfl
@[simp] theorem setMode_txvalid (m : GateState) : (setMode m s).txvalid = s.txvalid := rfl
@[simp] theorem setMode_cerr (m : GateState) : (setMode m s).cerr = s.cerr := rfl
@[simp] theorem setMode_parsed (m : GateState) : (setMode m s).parsed = s.parsed := rfl
@[simp] theorem setMode_parseOk (m : GateState) : (setMode m s).parseOk = s.parseOk := rfl
@[simp] theorem setMode_counted (m : GateState) : (setMode m s).counted = s.counted := rfl
@[simp] theorem setMode_mode (m : GateState) : (setMode m s).mode = m := rfl
@[simp] theorem setMode_fidvalid (m : GateState) : (setMode m s).fidvalid = s.fidvalid := rfl
@[simp] theorem setMode_optvalid (m : GateState) : (setMode m s).optvalid = s.optvalid := rfl
@[simp] theorem setMode_ferr (m : GateState) : (setMode m s).ferr = s.ferr := rfl
@[simp] theorem setMode_operand (m : GateState) : (setMode m s).operand = s.operand := rfl
@[simp] theorem setMode_cslen (m : GateState) : (setMode m s).cslen = s.cslen := rfl
@[simp] theorem setMode_callsign (m : GateState) : (setMode m s).callsign = s.callsign := rfl
@[simp] theorem setMode_key (m : GateState) : (setMode m s).key = s.key := rfl
@[simp] theorem setMode_rxbuf (m : GateState) : (setMode m s).rxbuf = s.rxbuf := rfl
@[simp] theorem setMode_rxlen (m : GateState) : (setMode m s).rxlen = s.rxlen := rfl
@[simp] theorem setMode_fid (m : GateState) : (setMode m s).fid = s.fid := rfl
@[simp] theorem setMode_optlen (m : GateState) : (setMode m s).optlen = s.optlen := rfl
@[simp] theorem setMode_optdata (m : GateState) : (setMode m s).optdata = s.optdata := rfl
@[simp] theorem setMode_respid (m : GateState) : (setMode m s).respid = s.respid := rfl
@[simp] theorem setMode_txod (m : GateState) : (setMode m s).txod = s.txod := rfl
@[simp] theorem setMode_txodlen (m : GateState) : (setMode m s).txodlen = s.txodlen := rfl
@[simp] theorem setMode_flen (m : GateState) : (setMode m s).flen = s.flen := rfl
@[simp] theorem setMode_txbuf (m : GateState) : (setMode m s).txbuf = s.txbuf := rfl
@[simp] theorem setMode_txlen (m : GateState) : (setMode m s).txlen = s.txlen := rfl
@[simp] theorem setMode_aescnt (m : GateState) : (setMode m s).aescnt = s.aescnt := rfl
@[simp] theorem setMode_evlog (m : GateState) : (setMode m s).evlog = s.evlog := rfl
@[simp] theorem setMode_env (m : GateState) : (setMode m s).env = s.env := rfl

/-! Counting AES calls (rule R44). -/

@[simp] theorem countAes_cfg (n : Nat) : (countAes n s).cfg = s.cfg := rfl
@[simp] theorem countAes_rxen (n : Nat) : (countAes n s).rxen = s.rxen := rfl
@[simp] theorem countAes_keyen (n : Nat) : (countAes n s).keyen = s.keyen := rfl
@[simp] theorem countAes_ieRx (n : Nat) : (countAes n s).ieRx = s.ieRx := rfl
@[simp] theorem countAes_ieDone (n : Nat) : (countAes n s).ieDone = s.ieDone := rfl
@[simp] theorem countAes_cmdlatch (n : Nat) : (countAes n s).cmdlatch = s.cmdlatch := rfl
@[simp] theorem countAes_busy (n : Nat) : (countAes n s).busy = s.busy := rfl
@[simp] theorem countAes_done (n : Nat) : (countAes n s).done = s.done := rfl
@[simp] theorem countAes_cmderr (n : Nat) : (countAes n s).cmderr = s.cmderr := rfl
@[simp] theorem countAes_hazard (n : Nat) : (countAes n s).hazard = s.hazard := rfl
@[simp] theorem countAes_dataReceived (n : Nat) : (countAes n s).dataReceived = s.dataReceived := rfl
@[simp] theorem countAes_txvalid (n : Nat) : (countAes n s).txvalid = s.txvalid := rfl
@[simp] theorem countAes_cerr (n : Nat) : (countAes n s).cerr = s.cerr := rfl
@[simp] theorem countAes_parsed (n : Nat) : (countAes n s).parsed = s.parsed := rfl
@[simp] theorem countAes_parseOk (n : Nat) : (countAes n s).parseOk = s.parseOk := rfl
@[simp] theorem countAes_counted (n : Nat) : (countAes n s).counted = s.counted := rfl
@[simp] theorem countAes_mode (n : Nat) : (countAes n s).mode = s.mode := rfl
@[simp] theorem countAes_fidvalid (n : Nat) : (countAes n s).fidvalid = s.fidvalid := rfl
@[simp] theorem countAes_optvalid (n : Nat) : (countAes n s).optvalid = s.optvalid := rfl
@[simp] theorem countAes_ferr (n : Nat) : (countAes n s).ferr = s.ferr := rfl
@[simp] theorem countAes_operand (n : Nat) : (countAes n s).operand = s.operand := rfl
@[simp] theorem countAes_cslen (n : Nat) : (countAes n s).cslen = s.cslen := rfl
@[simp] theorem countAes_callsign (n : Nat) : (countAes n s).callsign = s.callsign := rfl
@[simp] theorem countAes_key (n : Nat) : (countAes n s).key = s.key := rfl
@[simp] theorem countAes_rxbuf (n : Nat) : (countAes n s).rxbuf = s.rxbuf := rfl
@[simp] theorem countAes_rxlen (n : Nat) : (countAes n s).rxlen = s.rxlen := rfl
@[simp] theorem countAes_fid (n : Nat) : (countAes n s).fid = s.fid := rfl
@[simp] theorem countAes_optlen (n : Nat) : (countAes n s).optlen = s.optlen := rfl
@[simp] theorem countAes_optdata (n : Nat) : (countAes n s).optdata = s.optdata := rfl
@[simp] theorem countAes_respid (n : Nat) : (countAes n s).respid = s.respid := rfl
@[simp] theorem countAes_txod (n : Nat) : (countAes n s).txod = s.txod := rfl
@[simp] theorem countAes_txodlen (n : Nat) : (countAes n s).txodlen = s.txodlen := rfl
@[simp] theorem countAes_flen (n : Nat) : (countAes n s).flen = s.flen := rfl
@[simp] theorem countAes_txbuf (n : Nat) : (countAes n s).txbuf = s.txbuf := rfl
@[simp] theorem countAes_txlen (n : Nat) : (countAes n s).txlen = s.txlen := rfl
@[simp] theorem countAes_aescnt (n : Nat) : (countAes n s).aescnt = s.aescnt + BitVec.ofNat 32 n := rfl
@[simp] theorem countAes_evlog (n : Nat) : (countAes n s).evlog = s.evlog := rfl
@[simp] theorem countAes_env (n : Nat) : (countAes n s).env = s.env := rfl

/-! Dropping the transmit frame (rules R244, R248, R257). -/

@[simp] theorem dropTx_cfg : (dropTx s).cfg = s.cfg := rfl
@[simp] theorem dropTx_rxen : (dropTx s).rxen = s.rxen := rfl
@[simp] theorem dropTx_keyen : (dropTx s).keyen = s.keyen := rfl
@[simp] theorem dropTx_ieRx : (dropTx s).ieRx = s.ieRx := rfl
@[simp] theorem dropTx_ieDone : (dropTx s).ieDone = s.ieDone := rfl
@[simp] theorem dropTx_cmdlatch : (dropTx s).cmdlatch = s.cmdlatch := rfl
@[simp] theorem dropTx_busy : (dropTx s).busy = s.busy := rfl
@[simp] theorem dropTx_done : (dropTx s).done = s.done := rfl
@[simp] theorem dropTx_cmderr : (dropTx s).cmderr = s.cmderr := rfl
@[simp] theorem dropTx_hazard : (dropTx s).hazard = s.hazard := rfl
@[simp] theorem dropTx_dataReceived : (dropTx s).dataReceived = s.dataReceived := rfl
@[simp] theorem dropTx_txvalid : (dropTx s).txvalid = false := rfl
@[simp] theorem dropTx_cerr : (dropTx s).cerr = s.cerr := rfl
@[simp] theorem dropTx_parsed : (dropTx s).parsed = s.parsed := rfl
@[simp] theorem dropTx_parseOk : (dropTx s).parseOk = s.parseOk := rfl
@[simp] theorem dropTx_counted : (dropTx s).counted = s.counted := rfl
@[simp] theorem dropTx_mode : (dropTx s).mode = s.mode := rfl
@[simp] theorem dropTx_fidvalid : (dropTx s).fidvalid = s.fidvalid := rfl
@[simp] theorem dropTx_optvalid : (dropTx s).optvalid = s.optvalid := rfl
@[simp] theorem dropTx_ferr : (dropTx s).ferr = s.ferr := rfl
@[simp] theorem dropTx_operand : (dropTx s).operand = s.operand := rfl
@[simp] theorem dropTx_cslen : (dropTx s).cslen = s.cslen := rfl
@[simp] theorem dropTx_callsign : (dropTx s).callsign = s.callsign := rfl
@[simp] theorem dropTx_key : (dropTx s).key = s.key := rfl
@[simp] theorem dropTx_rxbuf : (dropTx s).rxbuf = s.rxbuf := rfl
@[simp] theorem dropTx_rxlen : (dropTx s).rxlen = s.rxlen := rfl
@[simp] theorem dropTx_fid : (dropTx s).fid = s.fid := rfl
@[simp] theorem dropTx_optlen : (dropTx s).optlen = s.optlen := rfl
@[simp] theorem dropTx_optdata : (dropTx s).optdata = s.optdata := rfl
@[simp] theorem dropTx_respid : (dropTx s).respid = s.respid := rfl
@[simp] theorem dropTx_txod : (dropTx s).txod = s.txod := rfl
@[simp] theorem dropTx_txodlen : (dropTx s).txodlen = s.txodlen := rfl
@[simp] theorem dropTx_flen : (dropTx s).flen = s.flen := rfl
@[simp] theorem dropTx_txbuf : (dropTx s).txbuf = [] := rfl
@[simp] theorem dropTx_txlen : (dropTx s).txlen = 0 := rfl
@[simp] theorem dropTx_aescnt : (dropTx s).aescnt = s.aescnt := rfl
@[simp] theorem dropTx_evlog : (dropTx s).evlog = s.evlog := rfl
@[simp] theorem dropTx_env : (dropTx s).env = s.env := rfl

/-! Issue (rule R150). -/

@[simp] theorem issue_cfg (w : Word) : (issue w s).cfg = s.cfg := rfl
@[simp] theorem issue_rxen (w : Word) : (issue w s).rxen = s.rxen := rfl
@[simp] theorem issue_keyen (w : Word) : (issue w s).keyen = s.keyen := rfl
@[simp] theorem issue_ieRx (w : Word) : (issue w s).ieRx = s.ieRx := rfl
@[simp] theorem issue_ieDone (w : Word) : (issue w s).ieDone = s.ieDone := rfl
@[simp] theorem issue_cmdlatch (w : Word) : (issue w s).cmdlatch = w := rfl
@[simp] theorem issue_busy (w : Word) : (issue w s).busy = true := rfl
@[simp] theorem issue_done (w : Word) : (issue w s).done = false := rfl
@[simp] theorem issue_cmderr (w : Word) : (issue w s).cmderr = s.cmderr := rfl
@[simp] theorem issue_hazard (w : Word) : (issue w s).hazard = s.hazard := rfl
@[simp] theorem issue_dataReceived (w : Word) : (issue w s).dataReceived = s.dataReceived := rfl
@[simp] theorem issue_txvalid (w : Word) : (issue w s).txvalid = s.txvalid := rfl
@[simp] theorem issue_cerr (w : Word) : (issue w s).cerr = s.cerr := rfl
@[simp] theorem issue_parsed (w : Word) : (issue w s).parsed = s.parsed := rfl
@[simp] theorem issue_parseOk (w : Word) : (issue w s).parseOk = s.parseOk := rfl
@[simp] theorem issue_counted (w : Word) : (issue w s).counted = s.counted := rfl
@[simp] theorem issue_mode (w : Word) : (issue w s).mode = s.mode := rfl
@[simp] theorem issue_fidvalid (w : Word) : (issue w s).fidvalid = s.fidvalid := rfl
@[simp] theorem issue_optvalid (w : Word) : (issue w s).optvalid = s.optvalid := rfl
@[simp] theorem issue_ferr (w : Word) : (issue w s).ferr = s.ferr := rfl
@[simp] theorem issue_operand (w : Word) : (issue w s).operand = s.operand := rfl
@[simp] theorem issue_cslen (w : Word) : (issue w s).cslen = s.cslen := rfl
@[simp] theorem issue_callsign (w : Word) : (issue w s).callsign = s.callsign := rfl
@[simp] theorem issue_key (w : Word) : (issue w s).key = s.key := rfl
@[simp] theorem issue_rxbuf (w : Word) : (issue w s).rxbuf = s.rxbuf := rfl
@[simp] theorem issue_rxlen (w : Word) : (issue w s).rxlen = s.rxlen := rfl
@[simp] theorem issue_fid (w : Word) : (issue w s).fid = s.fid := rfl
@[simp] theorem issue_optlen (w : Word) : (issue w s).optlen = s.optlen := rfl
@[simp] theorem issue_optdata (w : Word) : (issue w s).optdata = s.optdata := rfl
@[simp] theorem issue_respid (w : Word) : (issue w s).respid = s.respid := rfl
@[simp] theorem issue_txod (w : Word) : (issue w s).txod = s.txod := rfl
@[simp] theorem issue_txodlen (w : Word) : (issue w s).txodlen = s.txodlen := rfl
@[simp] theorem issue_flen (w : Word) : (issue w s).flen = s.flen := rfl
@[simp] theorem issue_txbuf (w : Word) : (issue w s).txbuf = s.txbuf := rfl
@[simp] theorem issue_txlen (w : Word) : (issue w s).txlen = s.txlen := rfl
@[simp] theorem issue_aescnt (w : Word) : (issue w s).aescnt = s.aescnt := rfl
@[simp] theorem issue_evlog (w : Word) : (issue w s).evlog = s.evlog := rfl
@[simp] theorem issue_env (w : Word) : (issue w s).env = s.env := rfl

/-! An answer on the bus (rule R140). -/

@[simp] theorem answer_cfg (v : Word) : (answer v s).cfg = s.cfg := rfl
@[simp] theorem answer_rxen (v : Word) : (answer v s).rxen = s.rxen := rfl
@[simp] theorem answer_keyen (v : Word) : (answer v s).keyen = s.keyen := rfl
@[simp] theorem answer_ieRx (v : Word) : (answer v s).ieRx = s.ieRx := rfl
@[simp] theorem answer_ieDone (v : Word) : (answer v s).ieDone = s.ieDone := rfl
@[simp] theorem answer_cmdlatch (v : Word) : (answer v s).cmdlatch = s.cmdlatch := rfl
@[simp] theorem answer_busy (v : Word) : (answer v s).busy = s.busy := rfl
@[simp] theorem answer_done (v : Word) : (answer v s).done = s.done := rfl
@[simp] theorem answer_cmderr (v : Word) : (answer v s).cmderr = s.cmderr := rfl
@[simp] theorem answer_hazard (v : Word) : (answer v s).hazard = s.hazard := rfl
@[simp] theorem answer_dataReceived (v : Word) : (answer v s).dataReceived = s.dataReceived := rfl
@[simp] theorem answer_txvalid (v : Word) : (answer v s).txvalid = s.txvalid := rfl
@[simp] theorem answer_cerr (v : Word) : (answer v s).cerr = s.cerr := rfl
@[simp] theorem answer_parsed (v : Word) : (answer v s).parsed = s.parsed := rfl
@[simp] theorem answer_parseOk (v : Word) : (answer v s).parseOk = s.parseOk := rfl
@[simp] theorem answer_counted (v : Word) : (answer v s).counted = s.counted := rfl
@[simp] theorem answer_mode (v : Word) : (answer v s).mode = s.mode := rfl
@[simp] theorem answer_fidvalid (v : Word) : (answer v s).fidvalid = s.fidvalid := rfl
@[simp] theorem answer_optvalid (v : Word) : (answer v s).optvalid = s.optvalid := rfl
@[simp] theorem answer_ferr (v : Word) : (answer v s).ferr = s.ferr := rfl
@[simp] theorem answer_operand (v : Word) : (answer v s).operand = s.operand := rfl
@[simp] theorem answer_cslen (v : Word) : (answer v s).cslen = s.cslen := rfl
@[simp] theorem answer_callsign (v : Word) : (answer v s).callsign = s.callsign := rfl
@[simp] theorem answer_key (v : Word) : (answer v s).key = s.key := rfl
@[simp] theorem answer_rxbuf (v : Word) : (answer v s).rxbuf = s.rxbuf := rfl
@[simp] theorem answer_rxlen (v : Word) : (answer v s).rxlen = s.rxlen := rfl
@[simp] theorem answer_fid (v : Word) : (answer v s).fid = s.fid := rfl
@[simp] theorem answer_optlen (v : Word) : (answer v s).optlen = s.optlen := rfl
@[simp] theorem answer_optdata (v : Word) : (answer v s).optdata = s.optdata := rfl
@[simp] theorem answer_respid (v : Word) : (answer v s).respid = s.respid := rfl
@[simp] theorem answer_txod (v : Word) : (answer v s).txod = s.txod := rfl
@[simp] theorem answer_txodlen (v : Word) : (answer v s).txodlen = s.txodlen := rfl
@[simp] theorem answer_flen (v : Word) : (answer v s).flen = s.flen := rfl
@[simp] theorem answer_txbuf (v : Word) : (answer v s).txbuf = s.txbuf := rfl
@[simp] theorem answer_txlen (v : Word) : (answer v s).txlen = s.txlen := rfl
@[simp] theorem answer_aescnt (v : Word) : (answer v s).aescnt = s.aescnt := rfl
@[simp] theorem answer_evlog (v : Word) : (answer v s).evlog = s.evlog := rfl
@[simp] theorem answer_env (v : Word) : (answer v s).env = { s.env with rdata := v } := rfl

/-! An unspecified answer (rule R152). -/

@[simp] theorem answerFree_cfg : (answerFree s).cfg = s.cfg := rfl
@[simp] theorem answerFree_rxen : (answerFree s).rxen = s.rxen := rfl
@[simp] theorem answerFree_keyen : (answerFree s).keyen = s.keyen := rfl
@[simp] theorem answerFree_ieRx : (answerFree s).ieRx = s.ieRx := rfl
@[simp] theorem answerFree_ieDone : (answerFree s).ieDone = s.ieDone := rfl
@[simp] theorem answerFree_cmdlatch : (answerFree s).cmdlatch = s.cmdlatch := rfl
@[simp] theorem answerFree_busy : (answerFree s).busy = s.busy := rfl
@[simp] theorem answerFree_done : (answerFree s).done = s.done := rfl
@[simp] theorem answerFree_cmderr : (answerFree s).cmderr = s.cmderr := rfl
@[simp] theorem answerFree_hazard : (answerFree s).hazard = s.hazard := rfl
@[simp] theorem answerFree_dataReceived : (answerFree s).dataReceived = s.dataReceived := rfl
@[simp] theorem answerFree_txvalid : (answerFree s).txvalid = s.txvalid := rfl
@[simp] theorem answerFree_cerr : (answerFree s).cerr = s.cerr := rfl
@[simp] theorem answerFree_parsed : (answerFree s).parsed = s.parsed := rfl
@[simp] theorem answerFree_parseOk : (answerFree s).parseOk = s.parseOk := rfl
@[simp] theorem answerFree_counted : (answerFree s).counted = s.counted := rfl
@[simp] theorem answerFree_mode : (answerFree s).mode = s.mode := rfl
@[simp] theorem answerFree_fidvalid : (answerFree s).fidvalid = s.fidvalid := rfl
@[simp] theorem answerFree_optvalid : (answerFree s).optvalid = s.optvalid := rfl
@[simp] theorem answerFree_ferr : (answerFree s).ferr = s.ferr := rfl
@[simp] theorem answerFree_operand : (answerFree s).operand = s.operand := rfl
@[simp] theorem answerFree_cslen : (answerFree s).cslen = s.cslen := rfl
@[simp] theorem answerFree_callsign : (answerFree s).callsign = s.callsign := rfl
@[simp] theorem answerFree_key : (answerFree s).key = s.key := rfl
@[simp] theorem answerFree_rxbuf : (answerFree s).rxbuf = s.rxbuf := rfl
@[simp] theorem answerFree_rxlen : (answerFree s).rxlen = s.rxlen := rfl
@[simp] theorem answerFree_fid : (answerFree s).fid = s.fid := rfl
@[simp] theorem answerFree_optlen : (answerFree s).optlen = s.optlen := rfl
@[simp] theorem answerFree_optdata : (answerFree s).optdata = s.optdata := rfl
@[simp] theorem answerFree_respid : (answerFree s).respid = s.respid := rfl
@[simp] theorem answerFree_txod : (answerFree s).txod = s.txod := rfl
@[simp] theorem answerFree_txodlen : (answerFree s).txodlen = s.txodlen := rfl
@[simp] theorem answerFree_flen : (answerFree s).flen = s.flen := rfl
@[simp] theorem answerFree_txbuf : (answerFree s).txbuf = s.txbuf := rfl
@[simp] theorem answerFree_txlen : (answerFree s).txlen = s.txlen := rfl
@[simp] theorem answerFree_aescnt : (answerFree s).aescnt = s.aescnt := rfl
@[simp] theorem answerFree_evlog : (answerFree s).evlog = s.evlog := rfl
@[simp] theorem answerFree_env : (answerFree s).env = { s.env with rdata := Config.busyRead s.env.draws, draws := s.env.draws + 1 } := rfl

/-! The views of Operands.lean and Cipher.lean through the updates that do not write what they read. -/

@[simp] theorem latchFid_csLen (f : Byte) : (latchFid f s).csLen = s.csLen := rfl
@[simp] theorem latchFid_frameLen (f : Byte) : (latchFid f s).frameLen = s.frameLen := rfl
@[simp] theorem latchFid_sectionLen (f : Byte) : (latchFid f s).sectionLen = s.sectionLen := rfl
@[simp] theorem latchFid_respLen (f : Byte) : (latchFid f s).respLen = s.respLen := rfl
@[simp] theorem latchFid_csLegal (f : Byte) : (latchFid f s).csLegal = s.csLegal := rfl
@[simp] theorem latchFid_fidByte (f : Byte) : (latchFid f s).fidByte = s.fidByte := rfl
@[simp] theorem latchFid_region (f : Byte) : (latchFid f s).region = s.region := rfl
@[simp] theorem latchFid_lengthByte (f : Byte) : (latchFid f s).lengthByte = s.lengthByte := rfl
@[simp] theorem latchFid_decrypted (f : Byte) (k : Nat) : (latchFid f s).decrypted k = s.decrypted k := rfl

@[simp] theorem setMode_csLen (m : GateState) : (setMode m s).csLen = s.csLen := rfl
@[simp] theorem setMode_frameLen (m : GateState) : (setMode m s).frameLen = s.frameLen := rfl
@[simp] theorem setMode_sectionLen (m : GateState) : (setMode m s).sectionLen = s.sectionLen := rfl
@[simp] theorem setMode_respLen (m : GateState) : (setMode m s).respLen = s.respLen := rfl
@[simp] theorem setMode_csLegal (m : GateState) : (setMode m s).csLegal = s.csLegal := rfl
@[simp] theorem setMode_fidByte (m : GateState) : (setMode m s).fidByte = s.fidByte := rfl
@[simp] theorem setMode_region (m : GateState) : (setMode m s).region = s.region := rfl
@[simp] theorem setMode_lengthByte (m : GateState) : (setMode m s).lengthByte = s.lengthByte := rfl
@[simp] theorem setMode_decrypted (m : GateState) (k : Nat) : (setMode m s).decrypted k = s.decrypted k := rfl

@[simp] theorem countAes_csLen (n : Nat) : (countAes n s).csLen = s.csLen := rfl
@[simp] theorem countAes_frameLen (n : Nat) : (countAes n s).frameLen = s.frameLen := rfl
@[simp] theorem countAes_sectionLen (n : Nat) : (countAes n s).sectionLen = s.sectionLen := rfl
@[simp] theorem countAes_respLen (n : Nat) : (countAes n s).respLen = s.respLen := rfl
@[simp] theorem countAes_csLegal (n : Nat) : (countAes n s).csLegal = s.csLegal := rfl
@[simp] theorem countAes_fidByte (n : Nat) : (countAes n s).fidByte = s.fidByte := rfl
@[simp] theorem countAes_region (n : Nat) : (countAes n s).region = s.region := rfl
@[simp] theorem countAes_lengthByte (n : Nat) : (countAes n s).lengthByte = s.lengthByte := rfl
@[simp] theorem countAes_decrypted (n : Nat) (k : Nat) : (countAes n s).decrypted k = s.decrypted k := rfl

@[simp] theorem withPending_csLen (l : List AgentStep) : (s.withPending l).csLen = s.csLen := rfl
@[simp] theorem withPending_frameLen (l : List AgentStep) : (s.withPending l).frameLen = s.frameLen := rfl
@[simp] theorem withPending_sectionLen (l : List AgentStep) : (s.withPending l).sectionLen = s.sectionLen := rfl
@[simp] theorem withPending_respLen (l : List AgentStep) : (s.withPending l).respLen = s.respLen := rfl
@[simp] theorem withPending_csLegal (l : List AgentStep) : (s.withPending l).csLegal = s.csLegal := rfl
@[simp] theorem withPending_fidByte (l : List AgentStep) : (s.withPending l).fidByte = s.fidByte := rfl
@[simp] theorem withPending_region (l : List AgentStep) : (s.withPending l).region = s.region := rfl
@[simp] theorem withPending_lengthByte (l : List AgentStep) : (s.withPending l).lengthByte = s.lengthByte := rfl
@[simp] theorem withPending_decrypted (l : List AgentStep) (k : Nat) : (s.withPending l).decrypted k = s.decrypted k := rfl

@[simp] theorem complete_csLen (c : CmdError) : (complete c s).csLen = s.csLen := rfl
@[simp] theorem complete_frameLen (c : CmdError) : (complete c s).frameLen = s.frameLen := rfl
@[simp] theorem complete_sectionLen (c : CmdError) : (complete c s).sectionLen = s.sectionLen := rfl
@[simp] theorem complete_respLen (c : CmdError) : (complete c s).respLen = s.respLen := rfl
@[simp] theorem complete_csLegal (c : CmdError) : (complete c s).csLegal = s.csLegal := rfl
@[simp] theorem complete_fidByte (c : CmdError) : (complete c s).fidByte = s.fidByte := rfl
@[simp] theorem complete_region (c : CmdError) : (complete c s).region = s.region := rfl
@[simp] theorem complete_lengthByte (c : CmdError) : (complete c s).lengthByte = s.lengthByte := rfl
@[simp] theorem complete_decrypted (c : CmdError) (k : Nat) : (complete c s).decrypted k = s.decrypted k := rfl

@[simp] theorem emit_csLen (e : Event) : (emit e s).csLen = s.csLen := rfl
@[simp] theorem emit_frameLen (e : Event) : (emit e s).frameLen = s.frameLen := rfl
@[simp] theorem emit_sectionLen (e : Event) : (emit e s).sectionLen = s.sectionLen := rfl
@[simp] theorem emit_respLen (e : Event) : (emit e s).respLen = s.respLen := rfl
@[simp] theorem emit_csLegal (e : Event) : (emit e s).csLegal = s.csLegal := rfl
@[simp] theorem emit_fidByte (e : Event) : (emit e s).fidByte = s.fidByte := rfl
@[simp] theorem emit_region (e : Event) : (emit e s).region = s.region := rfl
@[simp] theorem emit_lengthByte (e : Event) : (emit e s).lengthByte = s.lengthByte := rfl
@[simp] theorem emit_decrypted (e : Event) (k : Nat) : (emit e s).decrypted k = s.decrypted k := rfl

@[simp] theorem reject_csLen (e : FrameError) : (reject e s).csLen = s.csLen := rfl
@[simp] theorem reject_frameLen (e : FrameError) : (reject e s).frameLen = s.frameLen := rfl
@[simp] theorem reject_sectionLen (e : FrameError) : (reject e s).sectionLen = s.sectionLen := rfl
@[simp] theorem reject_respLen (e : FrameError) : (reject e s).respLen = s.respLen := rfl
@[simp] theorem reject_csLegal (e : FrameError) : (reject e s).csLegal = s.csLegal := rfl
@[simp] theorem reject_fidByte (e : FrameError) : (reject e s).fidByte = s.fidByte := rfl
@[simp] theorem reject_region (e : FrameError) : (reject e s).region = s.region := rfl
@[simp] theorem reject_lengthByte (e : FrameError) : (reject e s).lengthByte = s.lengthByte := rfl
@[simp] theorem reject_decrypted (e : FrameError) (k : Nat) : (reject e s).decrypted k = s.decrypted k := rfl

@[simp] theorem refuse_eq_complete (c : CmdError) : refuse c s = complete c s := rfl

@[simp] theorem withPending_pending (l : List AgentStep) : (s.withPending l).env.pending = l := rfl

end Sys2Proof.Machine
end

