-- ==== Sys2Proof/Laws/Buffers.lean ====
section
/-! SUPPORT. The lemmas of the buffer and block operations of Operands.lean and Cipher.lean, and the bounds a well-formed
configuration gives. -/

namespace Sys2Proof.Machine

/-! ## The configuration -/

/-- Rule R8, as inequalities. -/
theorem cfg_bounds (c : Cfg) :
    c.privateOffset ≤ 255 ∧ 1 ≤ c.maxNumOfBlocks ∧ 1 ≤ c.maxCallsignLen ∧ c.maxCallsignLen ≤ 255 ∧
      c.rxCap ≤ 1024 := by
  have h := c.wf
  simpa [Params.wf] using h

/-- The capacities of rule R7 bound what the buffers hold. -/
theorem cfg_caps (c : Cfg) :
    c.maxCallsignLen + 1 + c.maxOptDataLength ≤ c.rxCap ∧ c.maxCallsignLen + 1 + c.maxN ≤ c.rxCap ∧
      c.txCap = c.rxCap ∧ c.maxN % 16 = 0 := by
  refine ⟨?_, ?_, rfl, ?_⟩ <;> simp [Params.rxCap, Params.maxN]

/-! ## Bytes and slices -/

theorem wordByte_eq (v : Word) (j : Nat) : wordByte v j = v.extractLsb' (8 * j) 8 := rfl

@[simp] theorem length_lowBytes (n : Nat) (v : Word) : (lowBytes n v).length = n := by simp [lowBytes]

theorem bufByte_of_lt {buf : List Byte} {i : Nat} (h : i < buf.length) : bufByte buf i = buf[i] := by
  simp [bufByte, h]

theorem bufByte_of_ge {buf : List Byte} {i : Nat} (h : buf.length ≤ i) : bufByte buf i = 0 := by
  simp [bufByte, h]

theorem length_slice (buf : List Byte) (a b : Nat) : (slice buf a b).length = min (b - a) (buf.length - a) := by
  simp [slice]

theorem slice_append_right (x y : List Byte) (n : Nat) :
    slice (x ++ y) x.length (x.length + n) = y.take n := by
  simp [slice]

/-! ## Multiples of 16 -/

/-- ceil16 is what rule R11 says: a multiple of 16, not below n, and the least one. -/
theorem ceil16_spec (n : Nat) : ceil16 n % 16 = 0 ∧ n ≤ ceil16 n ∧ ceil16 n < n + 16 := by
  unfold ceil16; omega

theorem blocksFor_spec (n : Nat) : 16 * blocksFor n = ceil16 (1 + n) ∧ 1 ≤ blocksFor n := by
  unfold blocksFor ceil16; omega

/-- The blocks that hold 1 + n bytes are within any whole number of blocks that does. -/
theorem blocksFor_le {n e : Nat} (hdvd : e % 16 = 0) (hle : 1 + n ≤ e) : 16 * blocksFor n ≤ e := by
  unfold blocksFor ceil16; omega

/-! ## Blocks -/

@[simp] theorem aesDec_aesEnc (c : Cipher) (k b : Block) : aesDec c k (aesEnc c k b) = b := by
  cases c with
  | primitive => simp [aesDec, aesEnc]
  | xor16 =>
    apply Subtype.ext
    apply List.ext_getElem
    · simp [aesDec, aesEnc, xorBlock, b.2, k.2]
    · intro i _ _
      simp [aesDec, aesEnc, xorBlock]

@[simp] theorem aesEnc_aesDec (c : Cipher) (k b : Block) : aesEnc c k (aesDec c k b) = b := by
  cases c with
  | primitive => simp [aesDec, aesEnc]
  | xor16 => exact aesDec_aesEnc .xor16 k b

theorem toBlock_val {bytes : List Byte} (h : bytes.length = 16) : (toBlock bytes).1 = bytes := by
  simp [toBlock, h]

@[simp] theorem length_mapBlocks (f : Block → Block) (n : Nat) (bytes : List Byte) :
    (mapBlocks f n bytes).length = 16 * n := by
  induction n with
  | zero => rfl
  | succ n ih =>
    rw [mapBlocks, List.range_succ, List.flatMap_append, List.length_append]
    have := (f (blockAt bytes n)).2
    simp only [mapBlocks] at ih
    simp [ih, this]; omega

theorem mapBlocks_succ (f : Block → Block) (n : Nat) (bytes : List Byte) :
    mapBlocks f (n + 1) bytes = mapBlocks f n bytes ++ (f (blockAt bytes n)).1 := by
  simp [mapBlocks, List.range_succ]

/-- "Block i of the output depends on block i of the input and the key only" (rule R9). -/
theorem blockAt_mapBlocks (f : Block → Block) (n : Nat) (bytes : List Byte) {k : Nat} (hk : k < n) :
    blockAt (mapBlocks f n bytes) k = f (blockAt bytes k) := by
  induction n with
  | zero => omega
  | succ n ih =>
    rw [mapBlocks_succ]
    by_cases h : k < n
    · rw [← ih h]
      have hl := length_mapBlocks f n bytes
      simp only [blockAt, slice]
      rw [List.drop_append_of_le_length (by omega), List.take_append_of_le_length (by simp; omega)]
    · obtain rfl : k = n := by omega
      have hl := length_mapBlocks f k bytes
      apply Subtype.ext
      have : slice (mapBlocks f k bytes ++ (f (blockAt bytes k)).1) (16 * k) (16 * k + 16)
          = (f (blockAt bytes k)).1 := by
        rw [← hl, slice_append_right, List.take_of_length_le (by simp [(f (blockAt bytes k)).2])]
      rw [blockAt, this, toBlock_val (f (blockAt bytes k)).2]

theorem mapBlocks_congr {f g : Block → Block} {n : Nat} {x y : List Byte}
    (h : ∀ k < n, f (blockAt x k) = g (blockAt y k)) : mapBlocks f n x = mapBlocks g n y := by
  induction n with
  | zero => rfl
  | succ n ih =>
    rw [mapBlocks_succ, mapBlocks_succ, ih fun k hk => h k (by omega), h n (by omega)]

/-- Whole blocks cut from a list and joined again. -/
theorem mapBlocks_id (n : Nat) {bytes : List Byte} (h : 16 * n ≤ bytes.length) :
    mapBlocks id n bytes = bytes.take (16 * n) := by
  induction n with
  | zero => simp [mapBlocks]
  | succ n ih =>
    rw [mapBlocks_succ, ih (by omega)]
    have hb : (slice bytes (16 * n) (16 * n + 16)).length = 16 := by rw [length_slice]; omega
    rw [id, blockAt, toBlock_val hb, slice, show 16 * n + 16 - 16 * n = 16 by omega,
      show 16 * (n + 1) = 16 * n + 16 by omega, List.take_add]

/-- Decrypting the first blocks of an encrypted section gives the first blocks of the plaintext. -/
theorem decrypt_encrypt (c : Cipher) (key : Block) {n m : Nat} (hn : n ≤ m) {bytes : List Byte}
    (h : 16 * n ≤ bytes.length) :
    mapBlocks (aesDec c key) n (mapBlocks (aesEnc c key) m bytes) = bytes.take (16 * n) := by
  rw [← mapBlocks_id n h]
  apply mapBlocks_congr
  intro k hk
  rw [blockAt_mapBlocks _ _ _ (by omega), aesDec_aesEnc]; rfl

@[simp] theorem length_decrypted (s : State) (n : Nat) : (s.decrypted n).length = 16 * n := by
  simp [State.decrypted]

theorem length_plainSection (s : State) (h : s.txod.length = s.respLen) :
    s.plainSection.length = 16 * blocksFor s.respLen := by
  have := ceil16_spec (1 + s.respLen)
  have := blocksFor_spec s.respLen
  simp [State.plainSection, h]; omega

@[simp] theorem length_encryptedSection (s : State) :
    s.encryptedSection.length = 16 * blocksFor s.respLen := by
  simp [State.encryptedSection]

/-- The length byte is a byte. -/
theorem lengthByte_lt (s : State) : s.lengthByte < 256 := by
  unfold State.lengthByte; exact BitVec.isLt _

/-- D[1 .. 1+N) has N bytes. -/
theorem length_optional (s : State) (n : Nat) : (slice (s.decrypted (blocksFor n)) 1 (1 + n)).length = n := by
  have := blocksFor_spec n
  have := ceil16_spec (1 + n)
  rw [length_slice, length_decrypted]; omega

end Sys2Proof.Machine
end

