-- ==== Sys2Proof/Laws/Ops.lean ====
section
/-! SUPPORT. One lemma for each shared operation that says once everything it can do, for proofs to cite instead of
unfolding it. -/

namespace Sys2Proof.Machine

variable {s t : State}

/-! ## The step and the agents -/

/-- Everything the Engine's turn can do. -/
theorem engineTurn_cases (h : engineTurn s = .next t) :
    (s.busy = false ∧ t = s) ∨
    (s.busy = true ∧ ∃ i, fetch s = .instr i ∧ exec i s = .next t) ∨
    (s.busy = true ∧ ∃ e, fetch s = .illegal e ∧ t = complete .illegalCmd s) := by
  unfold engineTurn engineComplete at h
  cases hb : s.busy with
  | false =>
    rw [hb] at h
    simp only [Bool.false_eq_true, if_false] at h
    cases h
    exact .inl ⟨rfl, rfl⟩
  | true =>
    rw [hb] at h
    simp only [if_true] at h
    cases hf : fetch s with
    | instr i =>
      rw [hf] at h
      exact .inr (.inl ⟨rfl, i, rfl, h⟩)
    | illegal e =>
      rw [hf] at h
      cases h
      exact .inr (.inr ⟨rfl, e, rfl, rfl⟩)

/-- A bus step that is not refused has an aligned offset. -/
theorem onBus_next {off : Half} {u : State} (h : onBus off u = .next t) : aligned off = true ∧ t = u := by
  unfold onBus at h
  cases ha : aligned off with
  | false => rw [ha] at h; cases h
  | true => rw [ha] at h; cases h; exact ⟨rfl, rfl⟩

/-- Where the Engine is the next to move, planned or alone, the step is its turn with left still planned. -/
theorem step_engineTurn {left : List AgentStep}
    (h : (s.env.pending = [] ∧ left = []) ∨ s.env.pending = .engine :: left) :
    step s = engineTurn (s.withPending left) := by
  unfold step
  rcases h with ⟨hp, rfl⟩ | hp
  · rw [show s.withPending [] = s by rw [← hp, withPending_self], hp]
  · rw [hp]
    rfl

/-- Everything a step can do. -/
theorem step_cases (h : step s = .next t) :
    (s.env.pending = [] ∧ engineTurn s = .next t) ∨
    ∃ a rest, s.env.pending = a :: rest ∧
      ((a = .engine ∧ engineTurn (s.withPending rest) = .next t) ∨
       (∃ off, a = .regRead off ∧ aligned off = true ∧ t = regRead off (s.withPending rest)) ∨
       (∃ off v, a = .regWrite off v ∧ aligned off = true ∧ t = regWrite off v (s.withPending rest)) ∨
       (∃ data, a = .deliver data ∧ t = deliver data (s.withPending rest)) ∨
       (a = .reset ∧ t = State.resetWith s.cfg (s.withPending rest).env)) := by
  unfold step at h
  cases hp : s.env.pending with
  | nil => rw [hp] at h; exact .inl ⟨rfl, h⟩
  | cons a rest =>
    rw [hp] at h
    refine .inr ⟨a, rest, rfl, ?_⟩
    cases a with
    | engine => exact .inl ⟨rfl, h⟩
    | regRead off =>
      obtain ⟨ha, rfl⟩ := onBus_next h
      exact .inr (.inl ⟨off, rfl, ha, rfl⟩)
    | regWrite off v =>
      obtain ⟨ha, rfl⟩ := onBus_next h
      exact .inr (.inr (.inl ⟨off, v, rfl, ha, rfl⟩))
    | deliver data => cases h; exact .inr (.inr (.inr (.inl ⟨data, rfl, rfl⟩)))
    | reset => cases h; exact .inr (.inr (.inr (.inr ⟨rfl, rfl⟩)))

/-! ## The bus and the receive port -/

/-- A read changes nothing but what the Host holds (rule R77). -/
theorem regRead_only_env (off : Half) (s : State) : regRead off s = { s with env := (regRead off s).env } := by
  unfold regRead
  split <;> try rfl
  split <;> rfl

/-- A read takes no planned step away. -/
theorem regRead_pending (off : Half) (s : State) : (regRead off s).env.pending = s.env.pending := by
  unfold regRead
  split <;> try rfl
  split <;> rfl

/-- Everything a write can do while BUSY = 0: nothing, a command issued, or one writable register stored. -/
theorem idleWrite_cases (r : Reg) (v : Word) (s : State) :
    (idleWrite r v s = s ∨ idleWrite r v s = issue v s ∨
     idleWrite r v s =
       { s with rxen := v.getLsbD 0, keyen := v.getLsbD 1, ieRx := v.getLsbD 2, ieDone := v.getLsbD 3 } ∨
     idleWrite r v s = { s with operand := v } ∨ idleWrite r v s = { s with cslen := wordByte v 0 } ∨
     idleWrite r v s = { s with respid := wordByte v 0 } ∨
     (∃ m, idleWrite r v s = { s with key := setKeyWord m v s.key }) ∨
     ∃ i, idleWrite r v s = { s with callsign := s.callsign.set i (wordByte v 0) }) := by
  cases r with
  | cmd => exact .inr (.inl rfl)
  | ctrl => exact .inr (.inr (.inl rfl))
  | operand => exact .inr (.inr (.inr (.inl rfl)))
  | cslen => exact .inr (.inr (.inr (.inr (.inl rfl))))
  | respid => exact .inr (.inr (.inr (.inr (.inr (.inl rfl)))))
  | key m => exact .inr (.inr (.inr (.inr (.inr (.inr (.inl ⟨m, rfl⟩))))))
  | callsign i => exact .inr (.inr (.inr (.inr (.inr (.inr (.inr ⟨i, rfl⟩))))))
  | status => exact .inl rfl
  | fstat => exact .inl rfl
  | rxlen => exact .inl rfl
  | fid => exact .inl rfl
  | optlen => exact .inl rfl
  | aescnt => exact .inl rfl
  | txodlen => exact .inl rfl
  | txlen => exact .inl rfl
  | flen => exact .inl rfl
  | rxbuf i => exact .inl rfl
  | optdata i => exact .inl rfl
  | txod i => exact .inl rfl
  | txbuf i => exact .inl rfl
  | unmapped => exact .inl rfl

/-- Everything a write can do (rule R141): HAZARD while BUSY, else what an idle write does. -/
theorem regWrite_cases (off : Half) (v : Word) (s : State) :
    (s.busy = true ∧ regWrite off v s = { s with hazard := true }) ∨
    (s.busy = false ∧ regWrite off v s = idleWrite (regAt s.cfg off) v s) := by
  by_cases hb : s.busy = true
  · exact .inl ⟨hb, by rw [regWrite, if_pos hb]⟩
  · exact .inr ⟨by simpa using hb, by rw [regWrite, if_neg hb]⟩

/-- Everything a delivery can do (rules R171, R172). -/
theorem deliver_cases (data : List Byte) (s : State) :
    (s.rxen = true ∧ s.dataReceived = false ∧ s.busy = false ∧
      deliver data s = emit (.rxAccepted (len16 data))
        { s with rxbuf := data.take s.cfg.rxCap, rxlen := len16 data, dataReceived := true }) ∨
    (¬ (s.rxen = true ∧ s.dataReceived = false ∧ s.busy = false) ∧
      deliver data s = emit (.rxDropped (len16 data)) s) := by
  unfold deliver portOpen
  cases s.rxen <;> cases s.dataReceived <;> cases s.busy <;> simp

/-! ## PARSE and RELEASE -/

/-- Everything PARSE can do, seen from outside its stages. -/
theorem execParse_cases (h : execParse s = .next t) :
    ((s.dataReceived = false ∨ s.parsed = true) ∧ t = complete .noFrame s) ∨
    (s.dataReceived = true ∧ s.parsed = false ∧ s.csLegal = false ∧ t = complete .config s) ∨
    (s.dataReceived = true ∧ s.parsed = false ∧ s.csLegal = true ∧ t = complete .none (judgeFrame s)) := by
  unfold execParse at h
  cases hd : s.dataReceived <;> cases hp : s.parsed <;> cases hc : s.csLegal <;>
    simp [hd, hp, hc] at h <;> cases h <;> simp

/-- Everything the stages of PARSE can do (rule R176). -/
theorem judgeFrame_cases (s : State) :
    (callsignMismatch s = true ∧ judgeFrame s = reject .callsignMismatch s) ∨
    (callsignMismatch s = false ∧ structuralLengthBad s = true ∧ judgeFrame s = reject .invalidLength s) ∨
    (callsignMismatch s = false ∧ structuralLengthBad s = false ∧
      ((s.fidByte.toNat < s.cfg.privateOffset ∧ judgeFrame s = publicFrame s.fidByte s) ∨
       (s.cfg.privateOffset ≤ s.fidByte.toNat ∧
          s.fidByte.toNat ≤ s.cfg.privateOffset + s.cfg.numPrivateCommands ∧
          judgeFrame s = privateFrame s.fidByte s) ∨
       (s.cfg.privateOffset + s.cfg.numPrivateCommands < s.fidByte.toNat ∧
          judgeFrame s = invalidFrame s.fidByte s))) := by
  unfold judgeFrame
  cases callsignMismatch s with
  | true => exact .inl ⟨rfl, rfl⟩
  | false =>
    cases structuralLengthBad s with
    | true => exact .inr (.inl ⟨rfl, rfl, rfl⟩)
    | false =>
      refine .inr (.inr ⟨rfl, rfl, ?_⟩)
      simp only [Bool.false_eq_true, if_false]
      unfold decodeFid
      by_cases h1 : s.fidByte.toNat < s.cfg.privateOffset
      · exact .inl ⟨h1, by rw [if_pos h1]; rfl⟩
      · by_cases h2 : s.fidByte.toNat ≤ s.cfg.privateOffset + s.cfg.numPrivateCommands
        · exact .inr (.inl ⟨by omega, h2, by rw [if_neg h1, if_pos h2]; rfl⟩)
        · exact .inr (.inr ⟨by omega, by rw [if_neg h1, if_neg h2]; rfl⟩)

/-- Stage 1 passes exactly when the C - 1 compared bytes are there and equal (rule R177). -/
theorem callsignMismatch_eq_false (s : State) :
    callsignMismatch s = false ↔
      s.csLen - 1 ≤ s.frameLen ∧ ∀ i < s.csLen - 1, bufByte s.rxbuf i = bufByte s.callsign i := by
  simp [callsignMismatch]

/-- Stage 2 passes exactly when the frame holds a function id and was stored whole (rule R178). -/
theorem structuralLengthBad_eq_false (s : State) :
    structuralLengthBad s = false ↔ s.csLen + 1 ≤ s.frameLen ∧ s.frameLen ≤ s.cfg.rxCap := by
  simp [structuralLengthBad]

/-- Everything stage 4P can do (rule R181). -/
theorem plaintextStage_cases (s : State) :
    (s.cfg.maxOptDataLength < s.sectionLen ∧ plaintextStage s = reject .invalidLength s) ∨
    (s.sectionLen ≤ s.cfg.maxOptDataLength ∧
      plaintextStage s = accept { s with optlen := BitVec.ofNat 16 s.sectionLen, optdata := s.region }) := by
  unfold plaintextStage
  by_cases h : s.cfg.maxOptDataLength < s.sectionLen
  · exact .inl ⟨h, by rw [if_pos h]⟩
  · exact .inr ⟨by omega, by rw [if_neg h]⟩

/-- The gate's section is well formed: steps a and b of rule R220 pass. -/
def SectionOk (s : State) : Prop :=
  s.keyen = true ∧ s.sectionLen ≠ 0 ∧ s.sectionLen % 16 = 0 ∧ s.sectionLen ≤ s.cfg.maxN

/-- Everything stage 4E can do: the table of rule R220. -/
theorem gateStage_cases (s : State) :
    (¬ SectionOk s ∧ gateStage s = reject .decryptionFailed s) ∨
    (SectionOk s ∧ s.cfg.maxN < s.lengthByte ∧
      gateStage s = reject .incorrectPassword { countAes 1 s with optlen := BitVec.ofNat 16 s.cfg.maxN }) ∨
    (SectionOk s ∧ s.lengthByte ≤ s.cfg.maxN ∧ s.sectionLen < 1 + s.lengthByte ∧
      gateStage s = reject .decryptionFailed (countAes 1 s)) ∨
    (SectionOk s ∧ s.lengthByte ≤ s.cfg.maxN ∧ 1 + s.lengthByte ≤ s.sectionLen ∧
      s.cfg.maxOptDataLength < s.lengthByte ∧ gateStage s = reject .invalidLength (countAes 1 s)) ∨
    (SectionOk s ∧ s.lengthByte ≤ s.cfg.maxN ∧ 1 + s.lengthByte ≤ s.sectionLen ∧
      s.lengthByte ≤ s.cfg.maxOptDataLength ∧
      gateStage s = accept
        { countAes (blocksFor s.lengthByte) s with
          optlen := BitVec.ofNat 16 s.lengthByte
          optdata := slice (s.decrypted (blocksFor s.lengthByte)) 1 (1 + s.lengthByte) }) := by
  unfold gateStage SectionOk
  by_cases hk : s.keyen = true
  · by_cases h0 : s.sectionLen = 0
    · exact .inl ⟨by simp [h0], by simp [hk, h0]⟩
    · by_cases h1 : s.sectionLen % 16 = 0
      · by_cases h2 : s.cfg.maxN < s.sectionLen
        · exact .inl ⟨by omega, by simp [hk, h0, h1, h2]⟩
        · have hok : s.keyen = true ∧ s.sectionLen ≠ 0 ∧ s.sectionLen % 16 = 0 ∧ s.sectionLen ≤ s.cfg.maxN :=
            ⟨hk, h0, h1, by omega⟩
          simp only [hk, h0, h1, h2, Bool.not_true, Bool.false_eq_true, if_false, ne_eq, not_true_eq_false]
          by_cases h3 : s.cfg.maxN < s.lengthByte
          · exact .inr (.inl ⟨by simpa using hok.2.2.2, h3, by rw [if_pos h3]⟩)
          · by_cases h4 : s.sectionLen < 1 + s.lengthByte
            · exact .inr (.inr (.inl ⟨by simpa using hok.2.2.2, by omega, h4, by rw [if_neg h3, if_pos h4]⟩))
            · by_cases h5 : s.cfg.maxOptDataLength < s.lengthByte
              · exact .inr (.inr (.inr (.inl ⟨by simpa using hok.2.2.2, by omega, by omega, h5,
                  by rw [if_neg h3, if_neg h4, if_pos h5]⟩)))
              · exact .inr (.inr (.inr (.inr ⟨by simpa using hok.2.2.2, by omega, by omega, by omega,
                  by rw [if_neg h3, if_neg h4, if_neg h5]⟩)))
      · exact .inl ⟨by simp [h1], by simp [hk, h0, h1]⟩
  · exact .inl ⟨by simp [hk], by simp [hk]⟩

/-- Everything the counting of RELEASE can do (rule R190). -/
theorem countFrame_cases (rej : Bool) (s : State) :
    (s.counted = true ∧ countFrame rej s = s) ∨
    (s.counted = false ∧ rej = false ∧ s.parseOk = true ∧ countFrame rej s = emit .frameValid s) ∨
    (s.counted = false ∧ (rej = true ∨ s.parseOk = false) ∧
      countFrame rej s = emit (.frameInvalid s.reasonCode) s) := by
  unfold countFrame
  cases s.counted <;> cases rej <;> cases s.parseOk <;> simp

/-- Everything RELEASE can do (rule R188). -/
theorem execRelease_cases {rej : Bool} (h : execRelease rej s = .next t) :
    (s.dataReceived = false ∧ t = complete .noFrame s) ∨
    (s.dataReceived = true ∧ t = complete .none (clearFrame (countFrame rej s))) := by
  unfold execRelease at h
  cases hd : s.dataReceived <;> simp [hd] at h <;> cases h <;> simp

/-! ## The response encoder -/

/-- Everything push(n) can do (rule R248). -/
theorem push_cases (n : Nat) (s : State) :
    (s.cfg.maxOptDataLength < s.respLen + n ∧ push n s = complete .txOverflow s) ∨
    (s.respLen + n ≤ s.cfg.maxOptDataLength ∧
      push n s = complete .none (dropTx { s with
        txod := s.txod.take s.respLen ++ lowBytes n s.operand
        txodlen := s.txodlen + BitVec.ofNat 16 n })) := by
  unfold push
  by_cases h : s.cfg.maxOptDataLength < s.respLen + n
  · exact .inl ⟨h, by rw [if_pos h]; rfl⟩
  · exact .inr ⟨by omega, by rw [if_neg h]⟩

/-- Everything the length function can answer (rule R254). -/
theorem responseLength_cases (enc : Bool) (s : State) :
    (s.csLegal = false ∧ responseLength enc s = .error .config) ∨
    (s.csLegal = true ∧ enc = false ∧ responseLength enc s = .ok (s.csLen + 1 + s.respLen)) ∨
    (s.csLegal = true ∧ enc = true ∧ (255 < s.respLen ∨ s.cfg.maxN < 1 + s.respLen) ∧
      responseLength enc s = .error .invalidLength) ∨
    (s.csLegal = true ∧ enc = true ∧ s.respLen ≤ 255 ∧ 1 + s.respLen ≤ s.cfg.maxN ∧
      responseLength enc s = .ok (s.csLen + 1 + ceil16 (1 + s.respLen))) := by
  unfold responseLength
  cases s.csLegal with
  | false => exact .inl ⟨rfl, rfl⟩
  | true =>
    cases enc with
    | false => exact .inr (.inl ⟨rfl, rfl, rfl⟩)
    | true =>
      by_cases h1 : 255 < s.respLen
      · exact .inr (.inr (.inl ⟨rfl, rfl, .inl h1, by simp [h1]⟩))
      · by_cases h2 : s.cfg.maxN < 1 + s.respLen
        · exact .inr (.inr (.inl ⟨rfl, rfl, .inr h2, by simp [h1, h2]⟩))
        · exact .inr (.inr (.inr ⟨rfl, rfl, by omega, by omega, by simp [h1, h2]⟩))

/-- Everything FRAMELEN can do (rule R249). -/
theorem execFramelen_cases {enc : Bool} (h : execFramelen enc s = .next t) :
    (∃ code, responseLength enc s = .error code ∧ t = complete code s) ∨
    (∃ n, responseLength enc s = .ok n ∧ t = complete .none { s with flen := BitVec.ofNat 16 n }) := by
  unfold execFramelen at h
  cases hr : responseLength enc s with
  | error code => rw [hr] at h; cases h; exact .inl ⟨code, rfl, rfl⟩
  | ok n => rw [hr] at h; cases h; exact .inr ⟨n, rfl, rfl⟩

/-- Everything ENCODE can do (rules R250, R257). -/
theorem execEncode_cases {enc : Bool} (h : execEncode enc s = .next t) :
    (s.csLegal = false ∧ t = complete .config (dropTx s)) ∨
    (s.csLegal = true ∧ silenced s = true ∧ t = complete .silenced (dropTx s)) ∨
    (s.csLegal = true ∧ silenced s = false ∧ enc = true ∧ s.keyen = false ∧ t = complete .config (dropTx s)) ∨
    (s.csLegal = true ∧ silenced s = false ∧ (enc = true → s.keyen = true) ∧
      ∃ code, responseLength enc s = .error code ∧ t = complete code (dropTx s)) ∨
    (s.csLegal = true ∧ silenced s = false ∧ (enc = true → s.keyen = true) ∧
      ∃ n, responseLength enc s = .ok n ∧ t = complete .none (writeResponse enc n s)) := by
  unfold execEncode at h
  cases hc : s.csLegal with
  | false => simp [hc] at h; cases h; simp
  | true =>
    cases hs : silenced s with
    | true => simp [hc, hs] at h; cases h; simp
    | false =>
      cases hk : (enc && !s.keyen) with
      | true =>
        simp [hc, hs, hk] at h; cases h
        simp at hk
        simp [hk]
      | false =>
        simp only [hc, hs, hk, Bool.not_true, Bool.false_eq_true, if_false] at h
        have hk' : enc = true → s.keyen = true := by
          intro he; subst he; simpa using hk
        cases hr : responseLength enc s with
        | error code =>
          rw [hr] at h; cases h
          exact .inr (.inr (.inr (.inl ⟨rfl, rfl, hk', code, rfl, rfl⟩)))
        | ok n =>
          rw [hr] at h; cases h
          exact .inr (.inr (.inr (.inr ⟨rfl, rfl, hk', n, rfl, rfl⟩)))

end Sys2Proof.Machine
end

