-- ==== Sys2Proof/Laws/Bus.lean ====
section
/-! SUPPORT. What a read and a write of the bus are, by the register at the offset, and where the buffer windows stand;
and which instructions a command word can name. -/

namespace Sys2Proof.Machine

variable {s : State}

/-- A read while BUSY = 0 answers the register at the offset (rule R140). -/
theorem regRead_idle (off : Half) (hb : s.busy = false) :
    regRead off s = answer (idleRead s (regAt s.cfg off)) s := by
  unfold regRead
  split
  · rename_i h; rw [h]; rfl
  · rename_i h; rw [h]; rfl
  · rw [if_neg (by simp [hb])]

/-- A write while BUSY = 1 (rule R350). -/
theorem regWrite_busy (off : Half) (v : Word) (hb : s.busy = true) : regWrite off v s = { s with hazard := true } := by
  rw [regWrite, if_pos hb]

/-- A write while BUSY = 0 (rule R141). -/
theorem regWrite_idle (off : Half) (v : Word) (hb : s.busy = false) :
    regWrite off v s = idleWrite (regAt s.cfg off) v s := by
  rw [regWrite, if_neg (by simp [hb])]

/-- The step that an aligned read is. -/
theorem step_regRead {off : Half} {rest : List AgentStep} (hp : s.env.pending = .regRead off :: rest)
    (ha : off.toNat % 4 = 0) : step s = .next (regRead off (s.withPending rest)) := by
  rw [step, hp]; simp [agentTurn, onBus, aligned, ha]

/-- The step that an aligned write is. -/
theorem step_regWrite {off : Half} {v : Word} {rest : List AgentStep} (hp : s.env.pending = .regWrite off v :: rest)
    (ha : off.toNat % 4 = 0) : step s = .next (regWrite off v (s.withPending rest)) := by
  rw [step, hp]; simp [agentTurn, onBus, aligned, ha]

/-- Element i of a window stands at base + 4 * i (rule R84). -/
theorem windowReg_at {base cap i : Nat} {mk : Nat → Reg} (hi : i < cap) :
    windowReg base cap mk (base + 4 * i) = mk i := by
  rw [windowReg, show (base + 4 * i - base) / 4 = i by omega, if_pos hi]

/-- Nothing stands in a window from base + 4 * cap on (rule R86). -/
theorem windowReg_past {base cap off : Nat} {mk : Nat → Reg} (h : base + 4 * cap ≤ off) :
    windowReg base cap mk off = .unmapped := by
  rw [windowReg, if_neg (by omega)]

/-- No command word names a FRAME row. -/
theorem decodeWord_is_command {w : Word} {i : Instr} (h : decodeWord w = .instr i) (f : Byte) :
    i ≠ .framePublic f ∧ i ≠ .framePrivate f ∧ i ≠ .frameInvalid f := by
  unfold decodeWord at h
  simp only at h
  split at h; · cases h
  split at h; · cases h
  split at h; · cases h
  split at h; · cases h
  split at h <;> simp at h <;> subst h <;> simp

end Sys2Proof.Machine
end

