-- ==== Sys2Proof/Laws/Memory.lean ====
section
/-! SUPPORT. The canonical form of the byte buffers (Memory.wf): it holds after reset, and every operation that writes a
buffer keeps it. -/

namespace Sys2Proof.Machine

variable {s : State}

/-- Memory.wf as propositions. -/
theorem memory_wf_iff (s : State) : Memory.wf s = true ↔
    s.callsign.length = s.cfg.maxCallsignLen ∧
    s.rxbuf.length = min s.rxlen.toNat s.cfg.rxCap ∧
    (s.optvalid = true → s.optdata.length = s.optlen.toNat ∧ s.optdata.length ≤ s.cfg.maxOptDataLength) ∧
    (s.optvalid = false → s.optdata = []) ∧
    (s.txod.length = s.txodlen.toNat ∧ s.txod.length ≤ s.cfg.maxOptDataLength) ∧
    (s.txvalid = true → s.txbuf.length = s.txlen.toNat ∧ s.txbuf.length ≤ s.cfg.txCap) ∧
    (s.txvalid = false → s.txbuf = [] ∧ s.txlen = 0) := by
  unfold Memory.wf State.frameLen State.respLen
  cases s.optvalid <;> cases s.txvalid <;> simp [and_assoc]

/-! ## Operations that write no buffer -/

@[simp] theorem memory_wf_emit (e : Event) : Memory.wf (emit e s) = Memory.wf s := rfl
@[simp] theorem memory_wf_complete (c : CmdError) : Memory.wf (complete c s) = Memory.wf s := rfl
@[simp] theorem memory_wf_latchFid (f : Byte) : Memory.wf (latchFid f s) = Memory.wf s := rfl
@[simp] theorem memory_wf_setMode (m : GateState) : Memory.wf (setMode m s) = Memory.wf s := rfl
@[simp] theorem memory_wf_countAes (n : Nat) : Memory.wf (countAes n s) = Memory.wf s := rfl
@[simp] theorem memory_wf_issue (w : Word) : Memory.wf (issue w s) = Memory.wf s := rfl
@[simp] theorem memory_wf_withPending (l : List AgentStep) : Memory.wf (s.withPending l) = Memory.wf s := rfl

theorem memory_wf_countFrame (rej : Bool) : Memory.wf (countFrame rej s) = Memory.wf s := by
  rcases countFrame_cases rej s with ⟨_, h⟩ | ⟨_, _, _, h⟩ | ⟨_, _, h⟩ <;> rw [h] <;> rfl

theorem memory_wf_regRead (off : Half) : Memory.wf (regRead off s) = Memory.wf s := by
  rw [regRead_only_env off s]; rfl

/-! ## Operations that write one -/

theorem memory_wf_reject (e : FrameError) (h : Memory.wf s = true) : Memory.wf (reject e s) = true := by
  rw [memory_wf_iff] at h ⊢
  obtain ⟨h1, h2, -, -, h5, h6, h7⟩ := h
  exact ⟨h1, h2, by simp, by simp, h5, h6, h7⟩

theorem memory_wf_clearFrame (h : Memory.wf s = true) : Memory.wf (clearFrame s) = true := by
  rw [memory_wf_iff] at h ⊢
  obtain ⟨h1, -, -, -, h5, h6, h7⟩ := h
  exact ⟨h1, by simp, by simp, by simp, h5, h6, h7⟩

theorem memory_wf_dropTx (h : Memory.wf s = true) : Memory.wf (dropTx s) = true := by
  rw [memory_wf_iff] at h ⊢
  obtain ⟨h1, h2, h3, h4, h5, -, -⟩ := h
  exact ⟨h1, h2, h3, h4, h5, by simp, by simp⟩

/-- Storing optional data of exactly n bytes, within the capacity of OPTDATA. -/
theorem memory_wf_accept {n : Nat} {data : List Byte} (h : Memory.wf s = true) (hlen : data.length = n)
    (hcap : n ≤ s.cfg.maxOptDataLength) :
    Memory.wf (accept { s with optlen := BitVec.ofNat 16 n, optdata := data }) = true := by
  have hc := cfg_bounds s.cfg
  have hm := cfg_caps s.cfg
  have hn : (BitVec.ofNat 16 n).toNat = n := by rw [BitVec.toNat_ofNat]; omega
  rw [memory_wf_iff] at h ⊢
  obtain ⟨h1, h2, -, -, h5, h6, h7⟩ := h
  refine ⟨h1, h2, fun _ => ⟨?_, ?_⟩, by simp, h5, h6, h7⟩
  · simp [hlen, hn]
  · simpa [hlen] using hcap

theorem memory_wf_deliver (data : List Byte) (h : Memory.wf s = true) : Memory.wf (deliver data s) = true := by
  rcases deliver_cases data s with ⟨-, -, -, hd⟩ | ⟨-, hd⟩ <;> rw [hd, memory_wf_emit]
  · have hc := cfg_bounds s.cfg
    rw [memory_wf_iff] at h ⊢
    obtain ⟨h1, -, h3, h4, h5, h6, h7⟩ := h
    refine ⟨h1, ?_, h3, h4, h5, h6, h7⟩
    simp only [len16, List.length_take, BitVec.toNat_ofNat]
    omega
  · exact h

theorem memory_wf_idleWrite (r : Reg) (v : Word) (h : Memory.wf s = true) :
    Memory.wf (idleWrite r v s) = true := by
  rcases idleWrite_cases r v s with e | e | e | e | e | e | ⟨m, e⟩ | ⟨i, e⟩ <;> rw [e]
  any_goals exact h
  rw [memory_wf_iff] at h ⊢
  obtain ⟨h1, h2⟩ := h
  exact ⟨by simpa using h1, h2⟩

theorem memory_wf_regWrite (off : Half) (v : Word) (h : Memory.wf s = true) :
    Memory.wf (regWrite off v s) = true := by
  rcases regWrite_cases off v s with ⟨-, e⟩ | ⟨-, e⟩ <;> rw [e]
  · exact h
  · exact memory_wf_idleWrite _ _ h

theorem memory_wf_push (n : Nat) (hn : n < 2 ^ 16) (h : Memory.wf s = true) : Memory.wf (push n s) = true := by
  rcases push_cases n s with ⟨-, e⟩ | ⟨hle, e⟩ <;> rw [e, memory_wf_complete]
  · exact h
  · have hc := cfg_bounds s.cfg
    have hm := cfg_caps s.cfg
    apply Eq.trans _ (memory_wf_dropTx h)
    rw [Bool.eq_iff_iff, memory_wf_iff, memory_wf_iff]
    rw [memory_wf_iff] at h
    obtain ⟨h1, h2, h3, h4, ⟨h5, h5'⟩, -, -⟩ := h
    simp only [State.respLen] at hle ⊢
    have hl : (s.txodlen + BitVec.ofNat 16 n).toNat = s.txodlen.toNat + n := by
      rw [BitVec.toNat_add, BitVec.toNat_ofNat]; omega
    refine ⟨fun _ => ⟨h1, h2, h3, h4, ⟨h5, h5'⟩, by simp, by simp⟩,
      fun _ => ⟨h1, h2, h3, h4, ⟨?_, ?_⟩, by simp, by simp⟩⟩
    · simp [hl]; omega
    · simp; omega

/-- The bytes ENCODE writes, of the length FRAMELEN answers, within the capacity of TXBUF. -/
theorem memory_wf_writeResponse {enc : Bool} {n : Nat} (h : Memory.wf s = true)
    (hn : responseLength enc s = .ok n) : Memory.wf (writeResponse enc n s) = true := by
  have hc := cfg_bounds s.cfg
  have hm := cfg_caps s.cfg
  have hb := blocksFor_spec s.respLen
  have hceil := ceil16_spec (1 + s.respLen)
  rw [memory_wf_iff] at h ⊢
  obtain ⟨h1, h2, h3, h4, ⟨h5, h5'⟩, -, -⟩ := h
  have key : s.csLegal = true → 1 ≤ s.csLen ∧ s.csLen ≤ s.cfg.maxCallsignLen := by
    intro hl; simpa [State.csLegal] using hl
  have hr : s.respLen ≤ s.cfg.maxOptDataLength := by unfold State.respLen; omega
  have hfit : (s.responseHeader ++ s.responseBody enc).length = n ∧ n ≤ s.cfg.txCap := by
    have hhead : s.csLen ≤ s.callsign.length → s.responseHeader.length = s.csLen + 1 := by
      intro hle; simp [State.responseHeader]; omega
    rcases responseLength_cases enc s with ⟨_, e⟩ | ⟨hl, he, e⟩ | ⟨_, _, _, e⟩ | ⟨hl, he, _, _, e⟩ <;>
      rw [e] at hn <;> cases hn
    · have := key hl
      have hbody : (s.responseBody enc).length = s.respLen := by
        simp [State.responseBody, he, State.respLen]; omega
      rw [List.length_append, hhead (by omega), hbody]; omega
    · have := key hl
      have hbody : (s.responseBody enc).length = 16 * blocksFor s.respLen := by
        simp [State.responseBody, he]
      rw [List.length_append, hhead (by omega), hbody]; omega
  have hlen : (BitVec.ofNat 16 n).toNat = n := by rw [BitVec.toNat_ofNat]; omega
  refine ⟨h1, h2, h3, h4, ⟨h5, h5'⟩, fun _ => ?_, fun hf => by simp [writeResponse] at hf⟩
  show (s.responseHeader ++ s.responseBody enc).length = (BitVec.ofNat 16 n).toNat ∧
    (s.responseHeader ++ s.responseBody enc).length ≤ s.cfg.txCap
  rw [hlen, hfit.1]
  exact ⟨rfl, hfit.2⟩

/-! ## PARSE -/

/-- The optional-data region of a frame that passed stage 2 has E bytes. -/
theorem length_region (h : Memory.wf s = true) (hs : structuralLengthBad s = false) :
    s.region.length = s.sectionLen := by
  rw [memory_wf_iff] at h
  rw [structuralLengthBad_eq_false] at hs
  obtain ⟨-, h2, -⟩ := h
  simp only [State.region, length_slice, State.sectionLen, State.frameLen] at *
  omega

theorem memory_wf_plaintextStage (h : Memory.wf s = true) (hr : s.region.length = s.sectionLen) :
    Memory.wf (plaintextStage s) = true := by
  rcases plaintextStage_cases s with ⟨-, e⟩ | ⟨hle, e⟩ <;> rw [e]
  · exact memory_wf_reject _ h
  · exact memory_wf_accept h hr hle

theorem memory_wf_gateStage (h : Memory.wf s = true) : Memory.wf (gateStage s) = true := by
  rcases gateStage_cases s with ⟨-, e⟩ | ⟨-, -, e⟩ | ⟨-, -, -, e⟩ | ⟨-, -, -, -, e⟩ | ⟨-, -, -, hle, e⟩ <;> rw [e]
  · exact memory_wf_reject _ h
  · rw [memory_wf_iff] at h ⊢
    obtain ⟨h1, h2, -, -, h5, h6, h7⟩ := h
    exact ⟨h1, h2, by simp, by simp, h5, h6, h7⟩
  · exact memory_wf_reject _ h
  · exact memory_wf_reject _ h
  · exact memory_wf_accept (s := countAes (blocksFor s.lengthByte) s) h (length_optional _ _) hle

theorem memory_wf_judgeFrame (h : Memory.wf s = true) : Memory.wf (judgeFrame s) = true := by
  rcases judgeFrame_cases s with ⟨-, e⟩ | ⟨-, -, e⟩ | ⟨-, hs, ⟨-, e⟩ | ⟨-, -, e⟩ | ⟨-, e⟩⟩ <;> rw [e]
  · exact memory_wf_reject _ h
  · exact memory_wf_reject _ h
  · exact memory_wf_plaintextStage (s := setMode .plaintext (latchFid s.fidByte s)) h (length_region h hs)
  · exact memory_wf_gateStage (s := setMode .encrypted (latchFid s.fidByte s)) h
  · exact memory_wf_reject (s := latchFid s.fidByte s) _ h

/-! ## After reset -/

theorem memory_wf_resetWith (cfg : Cfg) (env : Env) : Memory.wf (State.resetWith cfg env) = true := by
  rw [memory_wf_iff]; simp [State.resetWith]

end Sys2Proof.Machine
end

