-- ==== Sys2Proof/Laws/PerInstr.lean ====
section
/-! SUPPORT. The statements made of every instruction, one lemma per constructor of Instr. -/

/-- The mask and match columns of an instruction's row of spec/opcode_table.json (rule R111); none for the FRAME rows,
which have no fixed bits (rule R103). -/
def Sys2Proof.Laws.tableRow : Sys2Proof.Instr → Option (Sys2Proof.Word × Sys2Proof.Word)
  | .nop => some (0xFFFFFFFF, 0x00000000)
  | .parse => some (0xFFFFFFFF, 0x00000001)
  | .release _ => some (0xFFFFFDFF, 0x00000002)
  | .framelen _ => some (0xFFFFFEFF, 0x00000003)
  | .encode _ => some (0xFFFFFEFF, 0x00000004)
  | .txclear => some (0xFFFFFFFF, 0x00000005)
  | .push8 => some (0xFFFFFFFF, 0x00000006)
  | .push16 => some (0xFFFFFFFF, 0x00000007)
  | .push32 => some (0xFFFFFFFF, 0x00000008)
  | .framePublic _ => none
  | .framePrivate _ => none
  | .frameInvalid _ => none

/-- The instruction's code is of its row: a command word that the row's mask and match admit, or a function-id byte. -/
def Sys2Proof.Laws.TableRow.Statement (i : Sys2Proof.Instr) : Prop :=
  match Sys2Proof.Laws.tableRow i with
  | some (mask, value) => ∃ w, Sys2Proof.encode i = .word w ∧ w &&& mask = value
  | none => ∃ f, Sys2Proof.encode i = .fid f

theorem Sys2Proof.Laws.TableRow.nop : Sys2Proof.Laws.TableRow.Statement .nop := ⟨_, rfl, by decide⟩

theorem Sys2Proof.Laws.TableRow.parse : Sys2Proof.Laws.TableRow.Statement .parse := ⟨_, rfl, by decide⟩

theorem Sys2Proof.Laws.TableRow.release (rej : Bool) : Sys2Proof.Laws.TableRow.Statement (.release rej) :=
  ⟨_, rfl, by cases rej <;> decide⟩

theorem Sys2Proof.Laws.TableRow.framelen (enc : Bool) : Sys2Proof.Laws.TableRow.Statement (.framelen enc) :=
  ⟨_, rfl, by cases enc <;> decide⟩

theorem Sys2Proof.Laws.TableRow.encode (enc : Bool) : Sys2Proof.Laws.TableRow.Statement (.encode enc) :=
  ⟨_, rfl, by cases enc <;> decide⟩

theorem Sys2Proof.Laws.TableRow.txclear : Sys2Proof.Laws.TableRow.Statement .txclear := ⟨_, rfl, by decide⟩

theorem Sys2Proof.Laws.TableRow.push8 : Sys2Proof.Laws.TableRow.Statement .push8 := ⟨_, rfl, by decide⟩

theorem Sys2Proof.Laws.TableRow.push16 : Sys2Proof.Laws.TableRow.Statement .push16 := ⟨_, rfl, by decide⟩

theorem Sys2Proof.Laws.TableRow.push32 : Sys2Proof.Laws.TableRow.Statement .push32 := ⟨_, rfl, by decide⟩

theorem Sys2Proof.Laws.TableRow.framePublic (f : Sys2Proof.Byte) :
    Sys2Proof.Laws.TableRow.Statement (.framePublic f) := ⟨f, rfl⟩

theorem Sys2Proof.Laws.TableRow.framePrivate (f : Sys2Proof.Byte) :
    Sys2Proof.Laws.TableRow.Statement (.framePrivate f) := ⟨f, rfl⟩

theorem Sys2Proof.Laws.TableRow.frameInvalid (f : Sys2Proof.Byte) :
    Sys2Proof.Laws.TableRow.Statement (.frameInvalid f) := ⟨f, rfl⟩
end

