-- ==== Sys2Proof/Machine/Script.lean ====
section
/-! DEFINITION. The host-script notation of rules R120 and R121, as lists of agent steps. -/

namespace Sys2Proof.Machine

/-- wr REG, v (rule R120). -/
def wr (r : Reg) (v : Word) : AgentStep := .regWrite (offsetOf r) v

/-- rd REG (rule R120). -/
def rd (r : Reg) : AgentStep := .regRead (offsetOf r)

/-- cmd MNEMONIC (rule R120): the write of the command word w to CMD. -/
def cmd (w : Word) : AgentStep := wr .cmd w

/-- wait (rule R120): it stands for the Engine's completion step. -/
def wait : AgentStep := .engine

/-- do MNEMONIC (rule R121). -/
def doCmd (w : Word) : List AgentStep := [cmd w, wait]

/-- The writes of the callsign bytes from index i on. -/
def callsignWrites (i : Nat) : List Byte → List AgentStep
  | [] => []
  | b :: rest => wr (.callsign i) (b.setWidth 32) :: callsignWrites (i + 1) rest

/-- load_callsign "S" (rule R121). -/
def loadCallsign (name : List Byte) : List AgentStep :=
  callsignWrites 0 name ++ [wr .cslen (BitVec.ofNat 32 name.length)]

/-- Four bytes as a word, the least significant first (rule R72). -/
def wordOfBytes (bytes : List Byte) (at4 : Nat) : Word :=
  bufByte bytes (at4 + 3) ++ bufByte bytes (at4 + 2) ++ bufByte bytes (at4 + 1) ++ bufByte bytes at4

/-- load_key k0 ... k15 (rule R121); ctrl is what RegRead(CTRL) answers. -/
def loadKey (k : List Byte) (ctrl : Word) : List AgentStep :=
  [wr (.key 0) (wordOfBytes k 0), wr (.key 1) (wordOfBytes k 4), wr (.key 2) (wordOfBytes k 8),
    wr (.key 3) (wordOfBytes k 12), wr .ctrl (ctrl ||| 0x2)]

/-- enable_rx (rule R121); ctrl is what RegRead(CTRL) answers. -/
def enableRx (ctrl : Word) : List AgentStep := [wr .ctrl (ctrl ||| 0x1)]

/-- push8 v, push16 v and push32 v (rule R121). -/
def scriptPush8 (v : Word) : List AgentStep := wr .operand v :: doCmd 0x00000006
def scriptPush16 (v : Word) : List AgentStep := wr .operand v :: doCmd 0x00000007
def scriptPush32 (v : Word) : List AgentStep := wr .operand v :: doCmd 0x00000008

/-- pushbytes [b0 b1 ...] (rule R121). -/
def pushBytes (bytes : List Byte) : List AgentStep := bytes.flatMap fun b => scriptPush8 (b.setWidth 32)

/-- reject code (rule R121). -/
def scriptReject (code : Byte) : List AgentStep := wr .operand (code.setWidth 32) :: doCmd 0x00000202

end Sys2Proof.Machine
end

