-- ==== Sys2Proof/Tests/Slice0.lean ====
section
/-! SUPPORT. Tests. The expected values are those of the spec's vectors (95_test_vectors.md, named at each test), never the
model's own answers. After them stands, for each obligation that has hypotheses, a theorem that a concrete state meets
them (witness_...), one for each of its clauses. -/

namespace Sys2Proof.Machine.Tests

/-! ## The test data of 95_test_vectors.md section 0 -/

/-- Configuration TX: T1 with the toy cipher. -/
def tx : Cfg :=
  { privateOffset := 0x20, numPrivateCommands := 0x0A, maxOptDataLength := 64, maxNumOfBlocks := 3,
    maxCallsignLen := 32, cipher := .xor16 }

/-- Configuration T2 (MAX_OPT_DATA_LENGTH = 8) with the toy cipher. -/
def t2 : Cfg :=
  { privateOffset := 0x20, numPrivateCommands := 0x0A, maxOptDataLength := 8, maxNumOfBlocks := 3,
    maxCallsignLen := 32, cipher := .xor16 }

/-- "FOSSASAT-1B". -/
def fossa : List Byte := [0x46, 0x4F, 0x53, 0x53, 0x41, 0x53, 0x41, 0x54, 0x2D, 0x31, 0x42]

/-- The test key 00 01 .. 0F. -/
def testKey : Block := ⟨[0, 1, 2, 3, 4, 5, 6, 7, 8, 9, 10, 11, 12, 13, 14, 15], rfl⟩

/-- "Booted": callsign and key loaded, RXEN and KEYEN set. -/
def booted (c : Cfg) : State :=
  { State.resetWith c Env.quiet with
    rxen := true
    keyen := true
    cslen := 11
    callsign := fossa ++ List.replicate 21 0
    key := testKey }

/-- A booted block that holds this frame. -/
def held (frame : List Byte) : State := deliver frame (booted tx)

/-- The command word w latched, BUSY = 1. -/
def latched (w : Word) (s : State) : State := issue w s

/-- The state after one step, or the state itself where the step is refused. -/
def after (s : State) : State :=
  match step s with
  | .next t => t
  | .fault _ => s
  | .refused _ => s

/-- do w: the completion of w in s. -/
def doing (w : Word) (s : State) : State := after (latched w s)

/-- STATUS, FSTAT, OPTLEN, AESCNT: what section 2 of the spec's vectors reports of a PARSE. -/
def report (s : State) : Word × Word × Half × Word := (statusWord s, fstatWord s, s.optlen, s.aescnt)

/-- The private test frame: id 0x21 and a section. -/
def privateTest (section16 : List Byte) : List Byte := fossa ++ [0x21] ++ section16

/-- The section of vector V-D30. -/
def d30 : List Byte := [0x02, 0xAB, 0xB9, 3, 4, 5, 6, 7, 8, 9, 10, 11, 12, 13, 14, 15]

/-- The section of vector V-D31. -/
def d31 : List Byte := [0x31, 1, 2, 3, 4, 5, 6, 7, 8, 9, 10, 11, 12, 13, 14, 15]

/-- The section of vector V-D33. -/
def d33 : List Byte := 0x10 :: List.replicate 15 0

/-- The section c9 of V-D22 under the toy cipher: 09 01 .. 09 xor the key. -/
def c9 : List Byte := [9, 0, 0, 0, 0, 0, 0, 0, 0, 0, 10, 11, 12, 13, 14, 15]

/-! ## Well-formed instructions: an ill-formed term for each check -/

theorem test_wf_public_refused : (Instr.framePublic 0x20).wf tx = false := by decide
theorem test_wf_private_refused_below : (Instr.framePrivate 0x1F).wf tx = false := by decide
theorem test_wf_private_refused_above : (Instr.framePrivate 0x2B).wf tx = false := by decide
theorem test_wf_invalid_refused : (Instr.frameInvalid 0x2A).wf tx = false := by decide
theorem test_wf_cfg_refused :
    Cfg.ofParams { privateOffset := 256, numPrivateCommands := 0, maxOptDataLength := 0, maxNumOfBlocks := 1,
                   maxCallsignLen := 1, cipher := .primitive } = none := by decide

/-! ## Decoding: words written out from rules R110 and R111, and the illegal words of V-A10 -/

theorem test_decode_nop : decodeWord 0b00000000000000000000000000000000 = .instr .nop := by decide
theorem test_decode_parse : decodeWord 0b00000000000000000000000000000001 = .instr .parse := by decide
theorem test_decode_release_rej : decodeWord 0b00000000000000000000001000000010 = .instr (.release true) := by decide
theorem test_decode_framelen_enc : decodeWord 0b00000000000000000000000100000011 = .instr (.framelen true) := by decide
theorem test_decode_encode : decodeWord 0b00000000000000000000000000000100 = .instr (.encode false) := by decide
theorem test_decode_txclear : decodeWord 0b00000000000000000000000000000101 = .instr .txclear := by decide
theorem test_decode_push8 : decodeWord 0b00000000000000000000000000000110 = .instr .push8 := by decide
theorem test_decode_push16 : decodeWord 0b00000000000000000000000000000111 = .instr .push16 := by decide
theorem test_decode_push32 : decodeWord 0b00000000000000000000000000001000 = .instr .push32 := by decide
theorem test_decode_fid_ends :
    decode tx (.fid 0x1F) = .instr (.framePublic 0x1F) ∧ decode tx (.fid 0x20) = .instr (.framePrivate 0x20) ∧
      decode tx (.fid 0x2A) = .instr (.framePrivate 0x2A) ∧ decode tx (.fid 0x2B) = .instr (.frameInvalid 0x2B) := by
  decide
theorem test_decode_illegal_opcode :
    decodeWord 0x00000009 = .illegal (.unknownOpcode 0x09) ∧ decodeWord 0x000000FF = .illegal (.unknownOpcode 0xFF) := by
  decide
theorem test_decode_illegal_enc :
    decodeWord 0x00000101 = .illegal (.encNotAllowed 0x01) ∧ decodeWord 0x00000105 = .illegal (.encNotAllowed 0x05) ∧
      decodeWord 0x00000302 = .illegal (.encNotAllowed 0x02) := by decide
theorem test_decode_illegal_rej :
    decodeWord 0x00000203 = .illegal (.rejNotAllowed 0x03) ∧ decodeWord 0x00000204 = .illegal (.rejNotAllowed 0x04) := by
  decide
theorem test_decode_illegal_rsv :
    decodeWord 0x00000400 = .illegal .reservedBits ∧ decodeWord 0x00010000 = .illegal .reservedBits ∧
      decodeWord 0x80000000 = .illegal .reservedBits ∧ decodeWord 0xFFFFFFFF = .illegal .reservedBits := by decide

/-! ## One step of each instruction -/

/-- V-A9. -/
theorem test_nop : statusWord (doing 0x0 (booted tx)) = 0x00000002 := by decide
/-- V-A10. -/
theorem test_illegal : statusWord (doing 0x00000302 (booted tx)) = 0x00000106 := by decide
/-- V-P12. -/
theorem test_parse_mismatch :
    report (doing 0x1 (held [0x46, 0x4F, 0x53, 0x53, 0x41, 0x53, 0x41, 0x54, 0x2D, 0x32, 0x42, 0])) =
      (0x00000012, 0x00000105, 0, 0) := by decide
/-- V-P4: the last callsign byte is not compared. -/
theorem test_parse_last_byte :
    report (doing 0x1 (held [0x46, 0x4F, 0x53, 0x53, 0x41, 0x53, 0x41, 0x54, 0x2D, 0x31, 0x58, 0])) =
      (0x00000012, 0x00000033, 0, 0) := by decide
/-- V-P13, the smallest public frame with data. -/
theorem test_framePublic : (doing 0x1 (held (fossa ++ [0x1F, 0xAA]))).optdata = [0xAA] := by decide
/-- V-D30. -/
theorem test_framePrivate :
    report (doing 0x1 (held (privateTest d30))) = (0x00000012, 0x0000003B, 2, 1) ∧
      (doing 0x1 (held (privateTest d30))).optdata = [0xAA, 0xBB] := by decide
/-- V-D31: the clamp. -/
theorem test_framePrivate_clamp :
    report (doing 0x1 (held (privateTest d31))) = (0x00000012, 0x0000031D, 48, 1) := by decide
/-- V-P10. -/
theorem test_frameInvalid :
    report (doing 0x1 (held (fossa ++ [0x2B]))) = (0x00000012, 0x00000515, 0, 0) := by decide
/-- V-L5. -/
theorem test_release :
    (doing 0x2 (held (fossa ++ [0]))).evlog = [.rxAccepted 12, .frameInvalid 0x00] ∧
      statusWord (doing 0x2 (held (fossa ++ [0]))) = 0x00000002 := by decide
/-- V-A12. -/
theorem test_release_rej_refused : statusWord (doing 0x202 (booted tx)) = 0x00000306 := by decide
/-- V-E5 and V-E6: seven bytes of response optional data. -/
theorem test_framelen :
    (doing 0x3 { booted tx with txod := List.replicate 7 0, txodlen := 7 }).flen = 19 ∧
      (doing 0x103 { booted tx with txod := List.replicate 7 0, txodlen := 7 }).flen = 28 := by decide
/-- V-E11. -/
theorem test_encode : (doing 0x4 { booted tx with respid := 0x10 }).txbuf = fossa ++ [0x10] := by decide
/-- V-E22. -/
theorem test_encode_enc :
    (doing 0x104 { booted tx with respid := 0x21, txod := [0xAA, 0xBB], txodlen := 2 }).txbuf =
      privateTest d30 := by decide
/-- V-E1. -/
theorem test_txclear : (doing 0x5 { booted tx with txod := [0xAB], txodlen := 1 }).txodlen = 0 := by decide
/-- V-E9: the low byte only. -/
theorem test_push8 : (doing 0x6 { booted tx with operand := 0xFFFFFF77 }).txod = [0x77] := by decide
/-- V-E3. -/
theorem test_push16 :
    (doing 0x7 { booted tx with operand := 0x1234, txod := [0xAB], txodlen := 1 }).txod = [0xAB, 0x34, 0x12] := by
  decide
/-- V-E4. -/
theorem test_push32 : (doing 0x8 { booted tx with operand := 0xDEADBEEF }).txod = [0xEF, 0xBE, 0xAD, 0xDE] := by
  decide
/-- V-R1. -/
theorem test_deliver_closed :
    (deliver (fossa ++ [0]) { booted tx with rxen := false }).evlog = [.rxDropped 12] := by decide
/-- V-A5: the bytes of KEY0. -/
theorem test_write_key0 :
    (after ((State.resetWith tx Env.quiet).withPending [.regWrite 0x0040 0x03020100])).key.1.take 5 = [0, 1, 2, 3, 0] := by
  decide

/-! ## Witnesses: states that meet the hypotheses of the obligations -/

/-- The schedule before the next step. -/
def planned (steps : List AgentStep) (s : State) : State := s.withPending steps

/-- A public frame that fits. -/
def pingHeld : State := held (fossa ++ [0x1F, 0xAA])

/-- A block of configuration T2 that holds a private frame with this section. -/
def held2 (section16 : List Byte) : State := deliver (privateTest section16) (booted t2)

/-- A rejected frame, held. -/
def rejected : State := doing 0x1 (held [])

/-- A response of two bytes, id 0x10. -/
def response : State := { booted tx with respid := 0x10, txod := [0xAA, 0xBB], txodlen := 2 }

/-- n bytes of response optional data. -/
def responseOf (n : Nat) : State := { booted tx with txod := List.replicate n 0, txodlen := BitVec.ofNat 16 n }

/-- The state exec answers. -/
def ran (i : Instr) (s : State) : State :=
  match exec i s with
  | .next t => t
  | .fault _ => s
  | .refused _ => s

theorem exec_ran (i : Instr) (s : State) : exec i s = .next (ran i s) := by cases i <;> rfl

theorem witness_DecodeOfEncodeIsTheInstruction :
    (Instr.framePublic 0x1F).wf tx = true ∧ (Instr.framePrivate 0x20).wf tx = true ∧
      (Instr.framePrivate 0x2A).wf tx = true ∧ (Instr.frameInvalid 0x2B).wf tx = true ∧ Instr.nop.wf tx = true := by
  decide

theorem witness_EncodeOfDecodeIsTheCode :
    decode tx (.word 0x00000202) = .instr (.release true) ∧ decode tx (.fid 0x2B) = .instr (.frameInvalid 0x2B) := by
  decide

theorem witness_IllegalWordsAreTakenAndRefused_taken :
    (planned [.regWrite 0x0004 0x302] (booted tx)).busy = false ∧
      (planned [.regWrite 0x0004 0x302] (booted tx)).env.pending = .regWrite 0x0004 0x302 :: [] := by decide

theorem witness_IllegalWordsAreTakenAndRefused_alone :
    (latched 0x302 (booted tx)).busy = true ∧ (latched 0x302 (booted tx)).EngineNext [] ∧
      decodeWord (latched 0x302 (booted tx)).cmdlatch = .illegal (.encNotAllowed 0x02) := by decide

theorem witness_IllegalWordsAreTakenAndRefused_planned :
    (planned [.engine, .reset] (latched 0x400 (booted tx))).busy = true ∧
      (planned [.engine, .reset] (latched 0x400 (booted tx))).EngineNext [.reset] ∧
      decodeWord (planned [.engine, .reset] (latched 0x400 (booted tx))).cmdlatch = .illegal .reservedBits := by decide

/-- A configuration with no public and no invalid function id. -/
def allPrivate : Cfg := { privateOffset := 0, numPrivateCommands := 255 }

theorem witness_FunctionIdClassesPartition :
    255 ≤ allPrivate.privateOffset + allPrivate.numPrivateCommands ∧ allPrivate.privateOffset = 0 ∧
      allPrivate.privateOffset + allPrivate.numPrivateCommands ≤ 255 := by decide

theorem witness_StepRunsTheLatchedInstruction_alone :
    (latched 0x1 pingHeld).busy = true ∧ decodeWord (latched 0x1 pingHeld).cmdlatch = .instr .parse ∧
      (latched 0x1 pingHeld).env.pending = [] := by decide

theorem witness_StepRunsTheLatchedInstruction_planned :
    (planned [.engine] (latched 0x8 (booted tx))).busy = true ∧
      decodeWord (planned [.engine] (latched 0x8 (booted tx))).cmdlatch = .instr .push32 ∧
      (planned [.engine] (latched 0x8 (booted tx))).env.pending = .engine :: [] := by decide

theorem witness_ParseRunsTheFrameClass : pingHeld.ReachesFid 0x1F := by decide

theorem witness_EveryLatchedWordIsCompleted :
    ((latched 0xFFFFFFFF (booted tx)).busy = true ∧ (latched 0xFFFFFFFF (booted tx)).EngineNext []) ∧
      (planned [.engine, .reset] (latched 0x1 pingHeld)).busy = true ∧
      (planned [.engine, .reset] (latched 0x1 pingHeld)).EngineNext [.reset] := by decide

theorem witness_EngineRestsWhileIdle :
    (booted tx).busy = false ∧ (booted tx).env.pending = [] ∧ (planned [.engine] (booted tx)).busy = false ∧
      (planned [.engine] (booted tx)).env.pending = .engine :: [] := by decide

theorem witness_InstructionsWriteNoHostRegister : exec .nop (booted tx) = .next (ran .nop (booted tx)) := exec_ran _ _

theorem witness_IssueLatchesTheWord_idle :
    (planned [.regWrite 0x0004 0x1] (booted tx)).env.pending = .regWrite 0x0004 0x1 :: [] ∧
      (planned [.regWrite 0x0004 0x1] (booted tx)).busy = false := by decide

theorem witness_IssueLatchesTheWord_busy :
    (planned [.regWrite 0x0004 0x1] (latched 0x5 (booted tx))).env.pending = .regWrite 0x0004 0x1 :: [] ∧
      (planned [.regWrite 0x0004 0x1] (latched 0x5 (booted tx))).busy = true := by decide

/-- The hypotheses of the bus statements at an offset, while idle. -/
abbrev WriteWhileIdle (off : Half) : Prop :=
  off.toNat % 4 = 0 ∧ (planned [.regWrite off 1] (booted tx)).env.pending = .regWrite off 1 :: [] ∧
    (planned [.regWrite off 1] (booted tx)).busy = false

/-- The same for a read. -/
abbrev ReadWhileIdle (off : Half) : Prop :=
  off.toNat % 4 = 0 ∧ (planned [.regRead off] (booted tx)).env.pending = .regRead off :: [] ∧
    (planned [.regRead off] (booted tx)).busy = false

theorem witness_HostWritesStoreTheirRegister_busy :
    (0x0014 : Half).toNat % 4 = 0 ∧
      (planned [.regWrite 0x0014 5] (latched 0x0 (booted tx))).env.pending = .regWrite 0x0014 5 :: [] ∧
      (planned [.regWrite 0x0014 5] (latched 0x0 (booted tx))).busy = true := by decide

theorem witness_HostWritesStoreTheirRegister_registers :
    WriteWhileIdle 0x0000 ∧ WriteWhileIdle 0x0004 ∧ WriteWhileIdle 0x0010 ∧ WriteWhileIdle 0x0014 ∧
      WriteWhileIdle 0x0028 := by decide

theorem witness_HostWritesStoreTheirRegister_key :
    WriteWhileIdle 0x0040 ∧ (0x0040 : Half).toNat = 0x0040 + 4 * 0 ∧ WriteWhileIdle 0x004C ∧
      (0x004C : Half).toNat = 0x0040 + 4 * 3 := by decide

theorem witness_HostWritesStoreTheirRegister_callsign :
    WriteWhileIdle 0x1000 ∧ (0x1000 : Half).toNat = 0x1000 + 4 * 0 ∧ WriteWhileIdle 0x107C ∧
      (0x107C : Half).toNat = 0x1000 + 4 * 31 ∧ 31 < tx.maxCallsignLen := by decide

theorem witness_HostWritesStoreTheirRegister_ignored :
    WriteWhileIdle 0x0008 ∧ WriteWhileIdle 0x003C ∧ WriteWhileIdle 0x0050 ∧ WriteWhileIdle 0x0FFC ∧
      WriteWhileIdle 0x1080 ∧ WriteWhileIdle 0xFFFC := by decide

theorem witness_HostReadsWhileIdle_registers :
    ReadWhileIdle 0x0000 ∧ ReadWhileIdle 0x0008 ∧ ReadWhileIdle 0x000C ∧ ReadWhileIdle 0x0010 ∧
      ReadWhileIdle 0x0014 ∧ ReadWhileIdle 0x0018 ∧ ReadWhileIdle 0x001C ∧ ReadWhileIdle 0x0020 ∧
      ReadWhileIdle 0x0024 ∧ ReadWhileIdle 0x0028 ∧ ReadWhileIdle 0x002C ∧ ReadWhileIdle 0x0030 ∧
      ReadWhileIdle 0x0034 := by decide

theorem witness_HostReadsWhileIdle_windows :
    (ReadWhileIdle 0x107C ∧ 31 < tx.maxCallsignLen) ∧ (ReadWhileIdle 0x2180 ∧ 96 < tx.rxCap) ∧
      (ReadWhileIdle 0x30FC ∧ 63 < tx.maxOptDataLength) ∧ ReadWhileIdle 0x40FC ∧
      (ReadWhileIdle 0x5180 ∧ 96 < tx.txCap) := by decide

theorem witness_HostReadsWhileIdle_zero :
    ReadWhileIdle 0x0004 ∧ ReadWhileIdle 0x0038 ∧ ReadWhileIdle 0x0FFC ∧ ReadWhileIdle 0x1080 ∧
      ReadWhileIdle 0x2184 ∧ ReadWhileIdle 0x3100 ∧ ReadWhileIdle 0x4100 ∧ ReadWhileIdle 0x5184 ∧
      ReadWhileIdle 0x6000 ∧ ReadWhileIdle 0xFFFC := by decide

theorem witness_BusyDiscipline_write :
    (latched 0x0 (booted tx)).busy = true ∧ (0x0014 : Half).toNat % 4 = 0 ∧
      (planned [.regWrite 0x0014 5] (latched 0x0 (booted tx))).env.pending = .regWrite 0x0014 5 :: [] := by decide

theorem witness_BusyDiscipline_read :
    (planned [.regRead 0x0008] (latched 0x0 (booted tx))).busy = true ∧ (0x0008 : Half).toNat % 4 = 0 ∧
      (planned [.regRead 0x0008] (latched 0x0 (booted tx))).env.pending = .regRead 0x0008 :: [] := by decide

theorem witness_HazardIsSticky :
    (after (planned [.regWrite 0x0014 5] (latched 0x0 (booted tx)))).hazard = true ∧
      (planned [.regWrite 0x0014 5] (latched 0x0 (booted tx))).hazard = false ∧
      step (planned [.regWrite 0x0014 5] (latched 0x0 (booted tx))) =
        .next (after (planned [.regWrite 0x0014 5] (latched 0x0 (booted tx)))) := ⟨by decide, by decide, rfl⟩

theorem witness_MisalignedOffsetIsRefused :
    (0x0001 : Half).toNat % 4 ≠ 0 ∧ (0xFFFF : Half).toNat % 4 ≠ 0 ∧
      (planned [.regRead 0x0001] (booted tx)).env.pending = .regRead 0x0001 :: [] ∧
      (planned [.regWrite 0x0001 0] (booted tx)).env.pending = .regWrite 0x0001 0 :: [] := by decide

theorem witness_RegisterMapIsOneToOne : (Reg.txbuf 96).mapped tx ∧ (Reg.key 3).mapped tx ∧ Reg.flen.mapped tx :=
  ⟨show 96 < 97 by decide, show 3 < 4 by decide, trivial⟩

theorem witness_KeyIsNeverReadBack :
    step (planned [.regRead 0x0040] (booted tx)) = .next (after (planned [.regRead 0x0040] (booted tx))) ∧
      step { planned [.regRead 0x0040] (booted tx) with key := Block.zero } =
        .next (after { planned [.regRead 0x0040] (booted tx) with key := Block.zero }) := ⟨rfl, rfl⟩

/-- The read while BUSY = 1, where the answer is a free value. -/
theorem witness_KeyIsNeverReadBack_busy :
    (planned [.regRead 0x0040] (latched 0x0 (booted tx))).busy = true ∧
      step (planned [.regRead 0x0040] (latched 0x0 (booted tx))) =
        .next (after (planned [.regRead 0x0040] (latched 0x0 (booted tx)))) ∧
      step { planned [.regRead 0x0040] (latched 0x0 (booted tx)) with key := Block.zero } =
        .next (after { planned [.regRead 0x0040] (latched 0x0 (booted tx)) with key := Block.zero }) :=
  ⟨rfl, rfl, rfl⟩

theorem witness_OpenPortAcceptsTheFrame :
    (planned [.deliver [0xAA]] (booted tx)).env.pending = .deliver [0xAA] :: [] ∧ (booted tx).rxen = true ∧
      (booted tx).dataReceived = false ∧ (booted tx).busy = false := by decide

theorem witness_ClosedPortDropsTheFrame :
    (planned [.deliver [0xAA]] pingHeld).env.pending = .deliver [0xAA] :: [] ∧ pingHeld.dataReceived = true ∧
      (latched 0x0 (booted tx)).busy = true ∧ (State.resetWith tx Env.quiet).rxen = false := by decide

theorem witness_ParseIsRefused_no_frame : (booted tx).dataReceived = false ∧ rejected.parsed = true := by decide

theorem witness_ParseIsRefused_cslen :
    { pingHeld with cslen := 0 }.dataReceived = true ∧ { pingHeld with cslen := 0 }.parsed = false ∧
      ¬ { pingHeld with cslen := 0 }.CslenLegal ∧ ¬ { pingHeld with cslen := 33 }.CslenLegal := by decide

theorem witness_ParseRejectsBeforeTheGate_callsign : (held []).ParseEnabled ∧ ¬ (held []).CallsignMatches := by decide

theorem witness_ParseRejectsBeforeTheGate_length :
    (held fossa).ParseEnabled ∧ (held fossa).CallsignMatches ∧ ¬ (held fossa).LengthFits := by decide

theorem witness_ParseRejectsBeforeTheGate_fid :
    (held (fossa ++ [0x2B])).ReachesFid 0x2B ∧ tx.privateOffset + tx.numPrivateCommands < (0x2B : Byte).toNat := by
  decide

theorem witness_ParseRejectsBeforeTheGate_data :
    (held (fossa ++ [0x1F] ++ List.replicate 65 0)).ReachesFid 0x1F ∧ (0x1F : Byte).toNat < tx.privateOffset ∧
      tx.maxOptDataLength < (held (fossa ++ [0x1F] ++ List.replicate 65 0)).regionLength := by decide

theorem witness_ParseCopiesPublicOptionalData :
    (held (fossa ++ [0x1F] ++ List.replicate 64 0)).ReachesFid 0x1F ∧ (0x1F : Byte).toNat < tx.privateOffset ∧
      (held (fossa ++ [0x1F] ++ List.replicate 64 0)).regionLength ≤ tx.maxOptDataLength := by decide

theorem witness_GateRejectsInOrder_section :
    (held (privateTest [])).ReachesFid 0x21 ∧ PrivateFid tx 0x21 ∧ ¬ (held (privateTest [])).SectionWhole := by decide

theorem witness_GateRejectsInOrder_clamp :
    (held (privateTest d31)).ReachesFid 0x21 ∧ PrivateFid tx 0x21 ∧ (held (privateTest d31)).SectionWhole ∧
      tx.maxN < (held (privateTest d31)).lengthByte := by decide

theorem witness_GateRejectsInOrder_short :
    (held (privateTest d33)).ReachesFid 0x21 ∧ (held (privateTest d33)).SectionWhole ∧
      (held (privateTest d33)).lengthByte ≤ tx.maxN ∧
      (held (privateTest d33)).regionLength < 1 + (held (privateTest d33)).lengthByte := by decide

theorem witness_GateRejectsInOrder_data :
    (held2 c9).ReachesFid 0x21 ∧ PrivateFid t2 0x21 ∧ (held2 c9).SectionWhole ∧ (held2 c9).lengthByte ≤ t2.maxN ∧
      1 + (held2 c9).lengthByte ≤ (held2 c9).regionLength ∧ t2.maxOptDataLength < (held2 c9).lengthByte := by decide

theorem witness_GateDecryptsPrivateOptionalData :
    (held (privateTest d30)).ReachesFid 0x21 ∧ PrivateFid tx 0x21 ∧ (held (privateTest d30)).SectionWhole ∧
      (held (privateTest d30)).lengthByte ≤ tx.maxN ∧
      1 + (held (privateTest d30)).lengthByte ≤ (held (privateTest d30)).regionLength ∧
      (held (privateTest d30)).lengthByte ≤ tx.maxOptDataLength := by decide

theorem witness_FramePublicCompletes : pingHeld.regionLength ≤ pingHeld.cfg.maxOptDataLength := by decide

theorem witness_FramePrivateCompletes :
    (held (privateTest d30)).SectionWhole ∧ (held (privateTest d30)).lengthByte ≤ tx.maxN ∧
      1 + (held (privateTest d30)).lengthByte ≤ (held (privateTest d30)).regionLength ∧
      (held (privateTest d30)).lengthByte ≤ tx.maxOptDataLength := by decide

theorem witness_FrameRowsReject_public :
    (held (fossa ++ [0x1F] ++ List.replicate 65 0)).cfg.maxOptDataLength <
      (held (fossa ++ [0x1F] ++ List.replicate 65 0)).regionLength := by decide

theorem witness_FrameRowsReject_private :
    ¬ (held (privateTest [])).SectionWhole ∧
      ((held (privateTest d31)).SectionWhole ∧ tx.maxN < (held (privateTest d31)).lengthByte) ∧
      ((held (privateTest d33)).SectionWhole ∧ (held (privateTest d33)).lengthByte ≤ tx.maxN ∧
        (held (privateTest d33)).regionLength < 1 + (held (privateTest d33)).lengthByte) ∧
      ((held2 c9).SectionWhole ∧ (held2 c9).lengthByte ≤ t2.maxN ∧
        1 + (held2 c9).lengthByte ≤ (held2 c9).regionLength ∧
        t2.maxOptDataLength < (held2 c9).lengthByte) := by decide

theorem witness_LastCallsignByteIsNotCompared : exec .parse pingHeld = .next (ran .parse pingHeld) := exec_ran _ _

theorem witness_GateBoundsOptlen :
    (held (privateTest d31)).ReachesFid 0x21 ∧ PrivateFid tx 0x21 ∧ (held (privateTest d31)).optlen = 0 := by decide

theorem witness_RejectedFrameIsNeverEchoed :
    (held []).ParseEnabled ∧ exec .parse (held []) = .next (ran .parse (held [])) ∧
      (ran .parse (held [])).parseOk = false ∧
      exec (.encode true) (ran .parse (held [])) = .next (ran (.encode true) (ran .parse (held []))) :=
  ⟨by decide, exec_ran _ _, by decide, exec_ran _ _⟩

theorem witness_ReleaseCountsAndClears :
    (booted tx).dataReceived = false ∧ pingHeld.dataReceived = true ∧ rejected.dataReceived = true := by decide

theorem witness_CountedLogHasOneEventPerFrame :
    countLog [.rxAccepted 12, .rxDropped 2, .frameInvalid 1, .rxAccepted 13] = some .uncounted ∧
      countLog [.rxAccepted 12, .frameValid] = some .counted ∧
      ∀ e ∈ [Event.rxDropped 2, Event.frameInvalid 1], ∀ n, e ≠ .rxAccepted n := by
  refine ⟨by decide, by decide, ?_⟩
  simp

theorem witness_StepKeepsSafe :
    (State.resetWith tx Env.quiet).Safe ∧
      step (State.resetWith tx Env.quiet) = .next (State.resetWith tx Env.quiet) :=
  ⟨⟨⟨by decide, by decide⟩, by decide, by decide⟩, rfl⟩

/-- A held, parsed private frame meets the invariant too: it is no property of an idle block only. -/
theorem witness_StepKeepsSafe_held :
    (doing 0x1 (held (privateTest d30))).Safe :=
  ⟨⟨by decide, by decide⟩, by decide, by decide⟩

theorem witness_ReachableStatesKeepTheInvariants : Reachable (State.resetWith tx Env.quiet) := .reset tx Env.quiet

theorem witness_ConfigurationFixedAndLogAppendOnly :
    step (planned [.deliver [0xAA]] (booted tx)) = .next (after (planned [.deliver [0xAA]] (booted tx))) := rfl

theorem witness_BuffersHaveOneOwner_rxbuf :
    step (planned [.deliver [0xAA]] (booted tx)) = .next (after (planned [.deliver [0xAA]] (booted tx))) ∧
      (after (planned [.deliver [0xAA]] (booted tx))).rxbuf ≠ (planned [.deliver [0xAA]] (booted tx)).rxbuf :=
  ⟨rfl, by decide⟩

theorem witness_BuffersHaveOneOwner_optdata :
    step (latched 0x1 pingHeld) = .next (doing 0x1 pingHeld) ∧
      (doing 0x1 pingHeld).optdata ≠ (latched 0x1 pingHeld).optdata := ⟨rfl, by decide⟩

theorem witness_BuffersHaveOneOwner_txod :
    step (latched 0x6 (booted tx)) = .next (doing 0x6 (booted tx)) ∧
      (doing 0x6 (booted tx)).txod ≠ (latched 0x6 (booted tx)).txod := ⟨rfl, by decide⟩

theorem witness_BuffersHaveOneOwner_txbuf :
    step (latched 0x4 response) = .next (doing 0x4 response) ∧
      (doing 0x4 response).txbuf ≠ (latched 0x4 response).txbuf := ⟨rfl, by decide⟩

theorem witness_AesIsInvokedOnlyForEncryptedFrames :
    step (latched 0x104 response) = .next (doing 0x104 response) ∧
      (doing 0x104 response).aescnt ≠ (latched 0x104 response).aescnt := ⟨rfl, by decide⟩

theorem witness_SilenceHoldsUntilRelease :
    (latched 0x4 rejected).dataReceived = true ∧ (latched 0x4 rejected).parsed = true ∧
      (latched 0x4 rejected).parseOk = false ∧ step (latched 0x4 rejected) = .next (doing 0x4 rejected) :=
  ⟨by decide, by decide, by decide, rfl⟩

theorem witness_NoTransmitFrameFromRejectionToRelease :
    ((held []).ParseEnabled ∧ (ran .parse (held [])).parseOk = false ∧ (held []).txvalid = false) ∧
      exec .parse (held []) = .next (ran .parse (held [])) ∧
      BeforeRelease (ran .parse (held [])) (ran .parse (held [])) := ⟨by decide, exec_ran _ _, .refl _⟩

/-- An interleaving with an ENCODE in it: the Host issues it, the Engine refuses it. -/
theorem witness_NoTransmitFrameFromRejectionToRelease_encode :
    BeforeRelease (planned [.regWrite 0x0004 0x4, .engine] rejected)
        (after (planned [.regWrite 0x0004 0x4, .engine] rejected)) ∧
      (after (planned [.regWrite 0x0004 0x4, .engine] rejected)).Performs (.encode false) :=
  ⟨.step (.refl _) rfl (by rintro ⟨_, h⟩; cases h) (by rintro _ ⟨h, _⟩; cases h), rfl, by decide, .inr ⟨_, rfl⟩⟩

/-- A block with a valid transmit frame. -/
def encoded : State := doing 0x4 response

/-- The frame stays over a rejecting PARSE. -/
theorem witness_TransmitFrameStaysUntilCleared_stays :
    (latched 0x1 (deliver [] encoded)).txvalid = true ∧
      step (latched 0x1 (deliver [] encoded)) = .next (doing 0x1 (deliver [] encoded)) ∧
      silenced (doing 0x1 (deliver [] encoded)) = true := ⟨by decide, rfl, by decide⟩

theorem witness_TransmitFrameStaysUntilCleared_replaced :
    (latched 0x104 encoded).txvalid = true ∧ step (latched 0x104 encoded) = .next (doing 0x104 encoded) ∧
      (doing 0x104 encoded).txbuf ≠ encoded.txbuf := ⟨by decide, rfl, by decide⟩

theorem witness_TransmitFrameStaysUntilCleared_emptied :
    (latched 0x6 encoded).txvalid = true ∧ step (latched 0x6 encoded) = .next (doing 0x6 encoded) ∧
      (doing 0x6 encoded).txvalid = false := ⟨by decide, rfl, by decide⟩

theorem witness_ResetDiscardsEverything :
    (planned [.reset] pingHeld).env.pending = .reset :: [] := by decide

theorem witness_PushAppendsLittleEndian_fits :
    ((responseOf 63).txod.length = (responseOf 63).txodlen.toNat ∧ (responseOf 63).txodlen.toNat + 1 ≤ tx.maxOptDataLength) ∧
      ((responseOf 62).txod.length = (responseOf 62).txodlen.toNat ∧
        (responseOf 62).txodlen.toNat + 2 ≤ tx.maxOptDataLength) ∧
      ((responseOf 60).txod.length = (responseOf 60).txodlen.toNat ∧
        (responseOf 60).txodlen.toNat + 4 ≤ tx.maxOptDataLength) := by decide

theorem witness_PushAppendsLittleEndian_overflow :
    (responseOf 64).cfg.maxOptDataLength < (responseOf 64).txodlen.toNat + 1 ∧
      (responseOf 63).cfg.maxOptDataLength < (responseOf 63).txodlen.toNat + 2 ∧
      (responseOf 61).cfg.maxOptDataLength < (responseOf 61).txodlen.toNat + 4 := by decide

theorem witness_TwoPush16EqualOnePush32 :
    (responseOf 60).txod.length = (responseOf 60).txodlen.toNat ∧
      (responseOf 60).txodlen.toNat + 4 ≤ (responseOf 60).cfg.maxOptDataLength ∧
      exec .push16 { responseOf 60 with operand := (0x2211 : Half).setWidth 32 } =
        .next (push 2 { responseOf 60 with operand := (0x2211 : Half).setWidth 32 }) ∧
      exec .push16 { push 2 { responseOf 60 with operand := (0x2211 : Half).setWidth 32 } with
          operand := (0x4433 : Half).setWidth 32 } =
        .next (push 2 { push 2 { responseOf 60 with operand := (0x2211 : Half).setWidth 32 } with
          operand := (0x4433 : Half).setWidth 32 }) ∧
      exec .push32 { responseOf 60 with operand := (0x4433 : Half) ++ (0x2211 : Half) } =
        .next (push 4 { responseOf 60 with operand := (0x4433 : Half) ++ (0x2211 : Half) }) :=
  ⟨by decide, by decide, rfl, rfl, rfl⟩

theorem witness_FramelenSizesTheFrame :
    (responseOf 47).CslenLegal ∧ (responseOf 47).txodlen.toNat ≤ 255 ∧ 1 + (responseOf 47).txodlen.toNat ≤ tx.maxN ∧
      ¬ { responseOf 0 with cslen := 0 }.CslenLegal ∧ ¬ { responseOf 0 with cslen := 33 }.CslenLegal ∧
      tx.maxN < 1 + (responseOf 48).txodlen.toNat := by decide

theorem witness_EncodeWritesThePlainFrame :
    response.CslenLegal ∧ ¬ (response.dataReceived = true ∧ response.parsed = true ∧ response.parseOk = false) := by
  decide

theorem witness_EncodeWritesTheEncryptedFrame :
    (responseOf 47).CslenLegal ∧
      ¬ ((responseOf 47).dataReceived = true ∧ (responseOf 47).parsed = true ∧ (responseOf 47).parseOk = false) ∧
      (responseOf 47).keyen = true ∧ (responseOf 47).txodlen.toNat ≤ 255 ∧
      1 + (responseOf 47).txodlen.toNat ≤ (responseOf 47).cfg.maxN ∧ 3 = (1 + (responseOf 47).txodlen.toNat + 15) / 16 := by
  decide

theorem witness_EncodeRefusalsInOrder_first :
    ¬ { response with cslen := 33 }.CslenLegal ∧
      (rejected.CslenLegal ∧ rejected.dataReceived = true ∧ rejected.parsed = true ∧ rejected.parseOk = false) := by
  decide

theorem witness_EncodeRefusalsInOrder_last :
    ({ response with keyen := false }.CslenLegal ∧ { response with keyen := false }.dataReceived = false ∧
      { response with keyen := false }.keyen = false) ∧
      ((responseOf 48).CslenLegal ∧ (responseOf 48).dataReceived = false ∧ (responseOf 48).keyen = true ∧
        (responseOf 48).cfg.maxN < 1 + (responseOf 48).txodlen.toNat) := by decide

theorem witness_FramelenIsTheLengthEncodeWrites :
    Memory.wf response = true ∧ exec (.framelen true) response = .next (ran (.framelen true) response) ∧
      exec (.encode true) response = .next (ran (.encode true) response) ∧
      (ran (.encode true) response).cmderr = false := ⟨by decide, exec_ran _ _, exec_ran _ _, by decide⟩

theorem witness_PlainRoundTrip :
    (Memory.wf response = true ∧ (ran (.encode false) response).cmderr = false ∧
      response.respid.toNat < response.cfg.privateOffset ∧
      (booted tx).cfg = response.cfg ∧ (booted tx).cslen = response.cslen ∧
      (booted tx).callsign = response.callsign ∧ (booted tx).rxen = true ∧ (booted tx).dataReceived = false ∧
      (booted tx).busy = false ∧ (booted tx).parsed = false) ∧
    exec (.encode false) response = .next (ran (.encode false) response) := ⟨by decide, exec_ran _ _⟩

theorem witness_ParsedPlainFrameIsReencoded :
    (pingHeld.ParseEnabled ∧ Memory.wf pingHeld = true ∧ (ran .parse pingHeld).parseOk = true ∧
      (ran .parse pingHeld).mode = .plaintext ∧
      bufByte pingHeld.rxbuf (pingHeld.cslen.toNat - 1) = bufByte pingHeld.callsign (pingHeld.cslen.toNat - 1) ∧
      { booted tx with respid := 0x1F, txod := [0xAA], txodlen := 1 }.txod = (ran .parse pingHeld).optdata ∧
      { booted tx with respid := 0x1F, txod := [0xAA], txodlen := 1 }.txodlen = (ran .parse pingHeld).optlen ∧
      { booted tx with respid := 0x1F, txod := [0xAA], txodlen := 1 }.respid = (ran .parse pingHeld).fid ∧
      { booted tx with respid := 0x1F, txod := [0xAA], txodlen := 1 }.dataReceived = false ∧
      (booted tx).cfg = pingHeld.cfg ∧ (booted tx).cslen = pingHeld.cslen ∧
      (booted tx).callsign = pingHeld.callsign) ∧
    exec .parse pingHeld = .next (ran .parse pingHeld) := ⟨by decide, exec_ran _ _⟩

theorem witness_EncryptedRoundTrip :
    (Memory.wf { response with respid := 0x21 } = true ∧
      (ran (.encode true) { response with respid := 0x21 }).cmderr = false ∧ PrivateFid tx 0x21 ∧
      (booted tx).cfg = response.cfg ∧ (booted tx).cslen = response.cslen ∧
      (booted tx).callsign = response.callsign ∧ (booted tx).key = response.key ∧ (booted tx).keyen = true ∧
      (booted tx).rxen = true ∧ (booted tx).dataReceived = false ∧ (booted tx).busy = false ∧
      (booted tx).parsed = false) ∧
    exec (.encode true) { response with respid := 0x21 } =
      .next (ran (.encode true) { response with respid := 0x21 }) := ⟨by decide, exec_ran _ _⟩

end Sys2Proof.Machine.Tests
end

section
/-! PROOF. The command words of rules R110 to R112: a word with RSV = 0 is its own fields put together, and the decoder
answers an instruction exactly at that instruction's encoding. The match and mask columns of rule R111 follow. -/

namespace Sys2Proof

/-- The layout of rule R110, bit by bit. -/
theorem getLsbD_commandWord (opc : Byte) (enc rej : Bool) (j : Nat) :
    (commandWord opc enc rej).getLsbD j =
      if j < 8 then opc.getLsbD j else if j = 8 then enc else if j = 9 then rej else false := by
  change (0#22 ++ BitVec.ofBool rej ++ BitVec.ofBool enc ++ opc).getLsbD j = _
  simp only [BitVec.getLsbD_append, BitVec.getLsbD_ofBool, BitVec.getLsbD_zero]
  grind

/-- A word with RSV = 0 is determined by OPC, ENC and REJ (rule R110). -/
theorem commandWord_of_rsvField_eq_zero {w : Word} (hrsv : rsvField w = 0) :
    commandWord (opcField w) (encField w) (rejField w) = w := by
  have hhigh : ∀ k < 22, w.getLsbD (10 + k) = false := fun k hk => by
    simpa [rsvField, hk] using congrArg (·.getLsbD k) hrsv
  refine BitVec.eq_of_getLsbD_eq fun j hj => ?_
  rw [getLsbD_commandWord]
  split
  · simp [opcField, *]
  split
  · simp [encField, *]
  split
  · simp [rejField, *]
  · rw [← hhigh (j - 10) (by omega), show 10 + (j - 10) = j by omega]

/-- What the decoder has checked of a word it accepts: none of the four causes of rule R112. -/
theorem decodeWord_instr_fields {w : Word} {i : Instr} (h : decodeWord w = .instr i) :
    rsvField w = 0 ∧ (opcField w).toNat ≤ 0x08 ∧
      (encField w = true → opcField w = 0x03 ∨ opcField w = 0x04) ∧
      (rejField w = true → opcField w = 0x02) := by
  simp only [decodeWord] at h
  split at h; · cases h
  split at h; · cases h
  split at h; · cases h
  split at h; · cases h
  grind

/-- The word that decodes to an instruction is that instruction's encoding (rule R111). -/
theorem encode_of_decodeWord {w : Word} {i : Instr} (h : decodeWord w = .instr i) : encode i = .word w := by
  obtain ⟨hrsv, hle, henc, hrej⟩ := decodeWord_instr_fields h
  have hopc : opcField w = 0 ∨ opcField w = 1 ∨ opcField w = 2 ∨ opcField w = 3 ∨ opcField w = 4 ∨
      opcField w = 5 ∨ opcField w = 6 ∨ opcField w = 7 ∨ opcField w = 8 := by bv_omega
  rw [← commandWord_of_rsvField_eq_zero hrsv]
  rcases hopc with hopc | hopc | hopc | hopc | hopc | hopc | hopc | hopc | hopc
  -- One argument for the nine codes: OPC fixes the flags that must be 0, and with them what the decoder answers.
  all_goals
    simp [hopc] at henc hrej
    simp [decodeWord, hrsv, hopc, henc, hrej] at h
    simp [← h, encode, hopc, henc, hrej]

/-- The encoding of a command decodes to it (rule R111). -/
theorem decodeWord_of_encode {w : Word} {i : Instr} (h : encode i = .word w) : decodeWord w = .instr i := by
  cases i with
  | nop => cases h; exact decodes_nop
  | parse => cases h; exact decodes_parse
  | release rej => cases h; cases rej; exacts [decodes_release, decodes_release_rej]
  | framelen enc => cases h; cases enc; exacts [decodes_framelen, decodes_framelen_enc]
  | encode enc => cases h; cases enc; exacts [decodes_encode, decodes_encode_enc]
  | txclear => cases h; exact decodes_txclear
  | push8 => cases h; exact decodes_push8
  | push16 => cases h; exact decodes_push16
  | push32 => cases h; exact decodes_push32
  | framePublic f => cases h
  | framePrivate f => cases h
  | frameInvalid f => cases h

/-- Each instruction has one word (rules R110, R111). -/
theorem decodeWord_eq_instr_iff {w : Word} {i : Instr} : decodeWord w = .instr i ↔ encode i = .word w :=
  ⟨encode_of_decodeWord, decodeWord_of_encode⟩

/-- A mask that leaves out the one bit k admits two words: the match, and the match with bit k set. -/
theorem and_not_twoPow_eq_iff {n k : Nat} {w m : BitVec n} (hm : m.getLsbD k = false) :
    w &&& ~~~BitVec.twoPow n k = m ↔ w = m ∨ w = m ||| BitVec.twoPow n k := by
  constructor
  · rintro rfl
    cases hk : w.getLsbD k with
    | false => exact .inl (BitVec.eq_of_getLsbD_eq fun j _ => by grind)
    | true => exact .inr (BitVec.eq_of_getLsbD_eq fun j _ => by grind)
  · rintro (rfl | rfl)
    all_goals exact BitVec.eq_of_getLsbD_eq fun j _ => by grind

/-- A row of rule R111 without a flag: the mask is of the whole word. -/
theorem and_fullMask_eq_iff_decodeWord {w m : Word} {i : Instr} (hi : encode i = .word m) :
    w &&& 0xFFFFFFFF = m ↔ decodeWord w = .instr i := by
  rw [decodeWord_eq_instr_iff, hi, Code.word.injEq, eq_comm (a := m),
    show (0xFFFFFFFF : Word) = BitVec.allOnes 32 by decide, BitVec.and_allOnes]

/-- A row of rule R111 with a flag: the mask leaves out the flag's bit k, and the row's two words are its two
spellings. -/
theorem and_flagMask_eq_iff_decodeWord {w m : Word} {k : Nat} {op : Bool → Instr} (hm : m.getLsbD k = false)
    (hoff : encode (op false) = .word m) (hon : encode (op true) = .word (m ||| BitVec.twoPow 32 k)) :
    w &&& ~~~BitVec.twoPow 32 k = m ↔ ∃ flag, decodeWord w = .instr (op flag) := by
  simp only [decodeWord_eq_instr_iff, Bool.exists_bool, hoff, hon, Code.word.injEq, and_not_twoPow_eq_iff hm,
    eq_comm (a := w)]

/-- Settles O3: the decoder inverts the encoder, so a row's mask and match admit the words its operation encodes to. -/
theorem opcodeTableMasksDecide : Obligations.OpcodeTableMasksDecide := by
  refine ⟨fun w => ?_, decodes_release, decodes_release_rej, decodes_framelen, decodes_framelen_enc, decodes_encode,
    decodes_encode_enc⟩
  have hflagless {m : Word} {i : Instr} : encode i = .word m → (w &&& 0xFFFFFFFF = m ↔ decodeWord w = .instr i) :=
    and_fullMask_eq_iff_decodeWord
  have hrelease : w &&& 0xFFFFFDFF = 0x00000002 ↔ ∃ rej, decodeWord w = .instr (.release rej) :=
    and_flagMask_eq_iff_decodeWord (k := 9) rfl rfl rfl
  have hframelen : w &&& 0xFFFFFEFF = 0x00000003 ↔ ∃ enc, decodeWord w = .instr (.framelen enc) :=
    and_flagMask_eq_iff_decodeWord (k := 8) rfl rfl rfl
  have hencode : w &&& 0xFFFFFEFF = 0x00000004 ↔ ∃ enc, decodeWord w = .instr (.encode enc) :=
    and_flagMask_eq_iff_decodeWord (k := 8) rfl rfl rfl
  exact ⟨hflagless rfl, hflagless rfl, hrelease, hframelen, hencode, hflagless rfl, hflagless rfl, hflagless rfl,
    hflagless rfl⟩

end Sys2Proof
end

section
/-! PROOF. The Host's writes (rules R141, R150): which register stands at an offset that a write can store to, what a key
word's write leaves in KEY, and the step that a write is while idle and while BUSY; and NOP (rule R155). -/

namespace Sys2Proof.Machine

variable {s : State}

/-! ## The offsets of the writable registers -/

/-- The registers a write can store to while BUSY = 0 (rule R141). -/
def Reg.writable : Reg → Bool
  | .ctrl | .cmd | .operand | .cslen | .respid | .key _ | .callsign _ => true
  | _ => false

/-- A write to any other register is ignored (rule R141). -/
theorem idleWrite_of_not_writable {r : Reg} (v : Word) (hr : r.writable = false) : idleWrite r v s = s := by
  cases r with
  | ctrl | cmd | operand | cslen | respid | key | callsign => cases hr
  | _ => rfl

/-- The four words of KEY stand from 0x0040 on (rule R83). -/
theorem regAt_key {cfg : Cfg} {off : Half} {m : Nat} (hm : m < 4) (hoff : off.toNat = 0x0040 + 4 * m) :
    regAt cfg off = .key m := by
  rw [regAt, hoff, show (0x0040 + 4 * m) / 0x1000 = 0 by omega]
  have hword : m = 0 ∨ m = 1 ∨ m = 2 ∨ m = 3 := by omega
  rcases hword with rfl | rfl | rfl | rfl <;> rfl

/-- The CALLSIGN window stands from 0x1000 on, and a well-formed configuration ends it before 0x2000 (rules R8, R84). -/
theorem regAt_callsign {cfg : Cfg} {off : Half} {i : Nat} (hi : i < cfg.maxCallsignLen)
    (hoff : off.toNat = 0x1000 + 4 * i) : regAt cfg off = .callsign i := by
  obtain ⟨-, -, -, hmax, -⟩ := cfg_bounds cfg
  have hpage : (0x1000 + 4 * i) / 0x1000 = 1 := by omega
  simp only [regAt, hoff, hpage, windowReg_at hi]

/-- Below 0x1000 the writable registers are the five single ones and KEY. -/
theorem offset_of_writable_lowReg {off : Nat} (h : (lowReg off).writable = true) :
    off = 0x0000 ∨ off = 0x0004 ∨ off = 0x0010 ∨ off = 0x0014 ∨ off = 0x0028 ∨ (0x0040 ≤ off ∧ off ≤ 0x004C) := by
  unfold lowReg at h
  split at h <;> simp_all [Reg.writable]

/-- No element of a window is writable unless the window's registers are. -/
theorem windowReg_not_writable {base cap off : Nat} {mk : Nat → Reg} (hmk : ∀ i, (mk i).writable = false) :
    (windowReg base cap mk off).writable = false := by
  unfold windowReg
  split
  · exact hmk _
  · rfl

/-- Where the writable registers stand in the whole register space (rule R83). -/
theorem offset_of_writable_regAt {cfg : Cfg} {off : Half} (h : (regAt cfg off).writable = true) :
    off = 0x0000 ∨ off = 0x0004 ∨ off = 0x0010 ∨ off = 0x0014 ∨ off = 0x0028 ∨
      (0x0040 ≤ off.toNat ∧ off.toNat ≤ 0x004C) ∨
      (0x1000 ≤ off.toNat ∧ off.toNat < 0x1000 + 4 * cfg.maxCallsignLen) := by
  unfold regAt at h
  split at h
  case h_1 =>
    have hlow := offset_of_writable_lowReg h
    bv_omega
  case h_2 hpage =>
    have hinside : off.toNat < 0x1000 + 4 * cfg.maxCallsignLen := by
      by_contra hpast
      rw [windowReg_past (by omega)] at h
      cases h
    omega
  case h_7 => cases h
  all_goals
    rw [windowReg_not_writable fun _ => rfl] at h
    cases h

/-! ## KEY -/

/-- The four bytes of KEY's word m after a write to it are those of the value, least significant first (rule R145). -/
theorem getD_setKeyWord_word {m j : Nat} (v : Word) (k : Block) (hm : m < 4) (hj : j < 4) :
    (setKeyWord m v k).1.getD (4 * m + j) 0 = wordByte v j := by
  have hin : 4 * m + j < k.1.length := by rw [k.2]; omega
  have hbyte : j = 0 ∨ j = 1 ∨ j = 2 ∨ j = 3 := by omega
  rcases hbyte with rfl | rfl | rfl | rfl <;> simp_all [setKeyWord]

/-- A write to KEY's word m leaves the bytes of the other words as they are (rule R145). -/
theorem getD_setKeyWord_other {m n : Nat} (v : Word) (k : Block) (hn : n / 4 ≠ m) :
    (setKeyWord m v k).1.getD n 0 = k.1.getD n 0 := by
  have hne : 4 * m ≠ n ∧ 4 * m + 1 ≠ n ∧ 4 * m + 2 ≠ n ∧ 4 * m + 3 ≠ n := by omega
  simp [setKeyWord, hne]

/-! ## The step that a write is -/

/-- A write while BUSY = 1 sets HAZARD and is lost (rule R141). -/
theorem step_regWrite_busy {off : Half} {v : Word} {rest : List AgentStep}
    (hp : s.env.pending = .regWrite off v :: rest) (ha : off.toNat % 4 = 0) (hb : s.busy = true) :
    step s = .next { s.withPending rest with hazard := true } := by
  rw [step_regWrite hp ha, regWrite_busy (s := s.withPending rest) off v hb]

/-- A write while BUSY = 0 is the idle write to the register at the offset (rule R141). -/
theorem step_regWrite_idle {off : Half} {v : Word} {rest : List AgentStep} {r : Reg}
    (hp : s.env.pending = .regWrite off v :: rest) (ha : off.toNat % 4 = 0) (hb : s.busy = false)
    (hr : regAt s.cfg off = r) : step s = .next (idleWrite r v (s.withPending rest)) := by
  rw [step_regWrite hp ha, regWrite_idle (s := s.withPending rest) off v hb, withPending_cfg, hr]

/-! ## The obligations -/

/-- Settles O12: the step is the idle write to the register at the offset, and the register map says which one that is;
where no writable register stands, the idle write is the identity. -/
theorem hostWritesStoreTheirRegister : Obligations.HostWritesStoreTheirRegister := by
  intro s off v rest ha hp
  refine ⟨step_regWrite_busy hp ha, fun hb => ?_⟩
  have hidle {r : Reg} (hr : regAt s.cfg off = r) : step s = .next (idleWrite r v (s.withPending rest)) :=
    step_regWrite_idle hp ha hb hr
  refine ⟨?ctrl, ?cmd, ?operand, ?cslen, ?respid, ?key, ?callsign, ?ignored⟩
  case ctrl => rintro rfl; exact hidle (r := .ctrl) rfl
  case cmd => rintro rfl; exact hidle (r := .cmd) rfl
  case operand => rintro rfl; exact hidle (r := .operand) rfl
  case cslen => rintro rfl; exact hidle (r := .cslen) rfl
  case respid => rintro rfl; exact hidle (r := .respid) rfl
  case key =>
    intro m hm hoff
    refine ⟨setKeyWord m v s.key, hidle (regAt_key hm hoff), fun j hj => ?_, fun n _ hn => ?_⟩
    · exact getD_setKeyWord_word v s.key hm hj
    · exact getD_setKeyWord_other v s.key hn
  case callsign => exact fun i hi hoff => hidle (regAt_callsign hi hoff)
  case ignored =>
    intro hctrl hcmd hoperand hcslen hrespid hkey hcallsign
    have hfixed : (regAt s.cfg off).writable = false := by
      by_contra hw
      have hoff := offset_of_writable_regAt (by simpa using hw)
      tauto
    rw [hidle rfl, idleWrite_of_not_writable v hfixed]

/-- Settles O11: CMD stands at 0x0004, and the idle write to it is issue. -/
theorem issueLatchesTheWord : Obligations.IssueLatchesTheWord := by
  intro s w rest hp
  exact ⟨fun hb => step_regWrite_idle (r := .cmd) hp rfl hb rfl, step_regWrite_busy hp rfl⟩

/-- NOP is the completion step alone (rules R151, R155). -/
theorem exec_nop (s : State) : exec .nop s = .next (complete .none s) := rfl

/-- Settles O22: the decoder's row for the word 0, and the completion step with no error. -/
theorem nopOnlyCompletes : Obligations.NopOnlyCompletes :=
  ⟨decodes_nop, exec_nop⟩

end Sys2Proof.Machine
end

section
/-! PROOF. The receive family outside the stages of PARSE: a delivery at an open and at a closed port (rules R171, R172),
the refusals of PARSE (rule R186), and RELEASE (rules R188 to R191). -/

namespace Sys2Proof.Machine

variable {s : State}

/-! ## The step that a delivery is -/

/-- A delivery is never refused; its turn is taken off the schedule (rule R170). -/
theorem step_deliver {data : List Byte} {rest : List AgentStep} (hp : s.env.pending = .deliver data :: rest) :
    step s = .next (deliver data (s.withPending rest)) := by
  rw [step, hp]; rfl

/-- A delivery at an open port stores the frame (rule R171). -/
theorem deliver_open (data : List Byte) (hrxen : s.rxen = true) (hfree : s.dataReceived = false)
    (hidle : s.busy = false) :
    deliver data s = emit (.rxAccepted (len16 data))
      { s with rxbuf := data.take s.cfg.rxCap, rxlen := len16 data, dataReceived := true } := by
  obtain ⟨-, -, -, haccept⟩ | ⟨hclosed, -⟩ := deliver_cases data s
  · exact haccept
  · exact absurd ⟨hrxen, hfree, hidle⟩ hclosed

/-- A delivery at a closed port only logs that the frame was dropped (rule R172). -/
theorem deliver_closed (data : List Byte) (hclosed : s.rxen = false ∨ s.dataReceived = true ∨ s.busy = true) :
    deliver data s = emit (.rxDropped (len16 data)) s := by
  obtain ⟨hrxen, hfree, hidle, -⟩ | ⟨-, hdrop⟩ := deliver_cases data s
  · simp [hrxen, hfree, hidle] at hclosed
  · exact hdrop

/-! ## Completion and refusal in the words of the claims -/

/-- The completion step with an error is the refusal with its number (rules R310, R311). -/
theorem complete_eq_refusedWith {code : CmdError} (hcode : code ≠ .none) (s : State) :
    complete code s = s.refusedWith (cerrCode code) := by
  cases code with
  | none => exact absurd rfl hcode
  | _ => rfl

/-! ## PARSE -/

/-- PARSE without a frame that is still to be judged (rule R186, the first test). -/
theorem exec_parse_noFrame (hno : s.dataReceived = false ∨ s.parsed = true) :
    exec .parse s = .next (complete .noFrame s) := by
  obtain ⟨-, ht⟩ | ⟨hheld, hnew, -⟩ | ⟨hheld, hnew, -⟩ := execParse_cases (s := s) rfl
  · exact congrArg _ ht
  all_goals simp [hheld, hnew] at hno

/-- CSLEN is legal as a flag exactly when it is as a proposition (rule R30). -/
theorem csLegal_eq_true_iff : s.csLegal = true ↔ s.CslenLegal := decide_eq_true_iff

/-- PARSE with a frame to judge and an illegal CSLEN (rule R186, the second test). -/
theorem exec_parse_illegal_cslen (hheld : s.dataReceived = true) (hnew : s.parsed = false) (hcs : ¬ s.CslenLegal) :
    exec .parse s = .next (complete .config s) := by
  obtain ⟨hno, -⟩ | ⟨-, -, -, ht⟩ | ⟨-, -, hlegal, -⟩ := execParse_cases (s := s) rfl
  · simp [hheld, hnew] at hno
  · exact congrArg _ ht
  · exact absurd (csLegal_eq_true_iff.mp hlegal) hcs

/-! ## RELEASE -/

/-- RELEASE without a frame is refused (rule R188). -/
theorem exec_release_noFrame (rej : Bool) (hno : s.dataReceived = false) :
    exec (.release rej) s = .next (complete .noFrame s) := by
  obtain ⟨-, ht⟩ | ⟨hheld, -⟩ := execRelease_cases (s := s) (rej := rej) rfl
  · exact congrArg _ ht
  · simp [hno] at hheld

/-- RELEASE with a frame counts it and clears every trace of it (rules R188, R191). -/
theorem exec_release_held (rej : Bool) (hheld : s.dataReceived = true) :
    exec (.release rej) s = .next (complete .none (clearFrame (countFrame rej s))) := by
  obtain ⟨hno, -⟩ | ⟨-, ht⟩ := execRelease_cases (s := s) (rej := rej) rfl
  · simp [hheld] at hno
  · exact congrArg _ ht

/-- Counting a frame writes EVLOG alone, by at most one event (rule R190). -/
theorem countFrame_eq_evlog (rej : Bool) (s : State) :
    countFrame rej s = { s with
      evlog := if s.counted = true then s.evlog
        else if rej = false ∧ s.parseOk = true then s.evlog ++ [.frameValid]
        else s.evlog ++ [.frameInvalid (s.operand.extractLsb' 0 8)] } := by
  obtain ⟨hcounted, hlog⟩ | ⟨hnew, hrej, hok, hlog⟩ | ⟨hnew, hbad, hlog⟩ := countFrame_cases rej s
  · rw [hlog, if_pos hcounted]
  · rw [hlog, if_neg (by simp [hnew]), if_pos ⟨hrej, hok⟩]; rfl
  · have hinvalid : ¬ (rej = false ∧ s.parseOk = true) := by
      rintro ⟨rfl, hok⟩
      simp [hok] at hbad
    rw [hlog, if_neg (by simp [hnew]), if_neg hinvalid]; rfl

/-! ## The obligations -/

/-- Settles O20: the step is the delivery at an open port. It writes no register of PARSE's result, and rule R53 (h) says
that these are clear while no frame is held. -/
theorem openPortAcceptsTheFrame : Obligations.OpenPortAcceptsTheFrame := by
  intro s data rest hp hrxen hfree hidle
  refine ⟨_, (step_deliver hp).trans (congrArg _ (deliver_open data hrxen hfree hidle)), rfl, ?results, ?irq⟩
  case results =>
    rintro ⟨-, hnoFrame, -⟩
    obtain ⟨-, hfstat, hfid, hoptlen, -, hoptdata⟩ := hnoFrame hfree
    exact ⟨hfstat, hfid, hoptlen, hoptdata⟩
  case irq => exact Bool.and_true s.ieRx

/-- Settles O21: the step is the delivery at a closed port. -/
theorem closedPortDropsTheFrame : Obligations.ClosedPortDropsTheFrame := by
  intro s data rest hp hclosed
  rw [step_deliver hp, deliver_closed (s := s.withPending rest) data hclosed]
  rfl

/-- Settles O23: the two refusals of PARSE, in the order of its tests. -/
theorem parseIsRefused : Obligations.ParseIsRefused := by
  intro s
  refine ⟨fun hno => ?noFrame, fun hheld hnew hcs => ?cslen⟩
  case noFrame => rw [exec_parse_noFrame hno, complete_eq_refusedWith (by decide)]; rfl
  case cslen => rw [exec_parse_illegal_cslen hheld hnew hcs, complete_eq_refusedWith (by decide)]; rfl

/-- Settles O35: RELEASE is refused, or it is the counting of the frame, which writes EVLOG alone, and then the clearing
and the completion. -/
theorem releaseCountsAndClears : Obligations.ReleaseCountsAndClears := by
  refine ⟨decodes_release, decodes_release_rej, fun s rej => ⟨fun hno => ?noFrame, fun hheld => ?held⟩⟩
  case noFrame => rw [exec_release_noFrame rej hno, complete_eq_refusedWith (by decide)]; rfl
  case held => rw [exec_release_held rej hheld, countFrame_eq_evlog]; rfl

end Sys2Proof.Machine
end

section
/-! PROOF. The response encoder (rules R244 to R249, R252 to R254, R257): TXCLEAR, the PUSH commands, the length of a
response and its refusals, FRAMELEN, and the refusals of ENCODE in the order of its tests. -/

namespace Sys2Proof.Machine

variable {s : State}

/-! ## The tests in the words of the claims -/

/-- CSLEN is illegal as a flag exactly when it is as a proposition (rule R30). -/
theorem csLegal_eq_false_iff : s.csLegal = false ↔ ¬ s.CslenLegal := decide_eq_false_iff_not

/-- The block is silenced exactly while a frame is held that PARSE rejected (rule R252). -/
theorem silenced_eq_true_iff :
    silenced s = true ↔ s.dataReceived = true ∧ s.parsed = true ∧ s.parseOk = false := by
  simp [silenced, and_assoc]

/-! ## PUSH -/

/-- A push that does not fit appends nothing (rule R248). -/
theorem push_overflow {n : Nat} (hover : s.cfg.maxOptDataLength < s.txodlen.toNat + n) :
    push n s = s.refusedWith 0x04 := by
  obtain ⟨-, hpush⟩ | ⟨hfits, -⟩ := push_cases n s
  · rw [hpush, complete_eq_refusedWith (by decide)]; rfl
  · exact absurd hover (Nat.not_lt.mpr hfits)

/-- A push that fits appends the n low bytes of OPERAND to all of TXOD and drops the transmit frame (rule R248). -/
theorem push_fits {n : Nat} (hexact : s.txod.length = s.txodlen.toNat)
    (hfits : s.txodlen.toNat + n ≤ s.cfg.maxOptDataLength) :
    push n s = { s.completed with
      txod := s.txod ++ lowBytes n s.operand
      txodlen := s.txodlen + BitVec.ofNat 16 n, txvalid := false, txbuf := [], txlen := 0 } := by
  obtain ⟨hover, -⟩ | ⟨-, hpush⟩ := push_cases n s
  · exact absurd hfits (Nat.not_le.mpr hover)
  · have hwhole : s.txod.take s.respLen = s.txod := List.take_of_length_le hexact.le
    rw [hpush, hwhole]; rfl

/-! ## The length of a response -/

/-- The length function refuses an illegal CSLEN first (rule R254). -/
theorem responseLength_illegal_cslen (enc : Bool) (hcs : ¬ s.CslenLegal) :
    responseLength enc s = .error .config := by
  have hillegal := csLegal_eq_false_iff.mpr hcs
  obtain ⟨-, hlen⟩ | ⟨hlegal, -⟩ | ⟨hlegal, -⟩ | ⟨hlegal, -⟩ := responseLength_cases enc s
  · exact hlen
  all_goals simp [hillegal] at hlegal

/-- The length of a plain response (rule R254). -/
theorem responseLength_plain (hcs : s.CslenLegal) :
    responseLength false s = .ok (s.cslen.toNat + 1 + s.txodlen.toNat) := by
  obtain ⟨hillegal, -⟩ | ⟨-, -, hlen⟩ | ⟨-, henc, -⟩ | ⟨-, henc, -⟩ := responseLength_cases false s
  · exact absurd hcs (csLegal_eq_false_iff.mp hillegal)
  · exact hlen
  all_goals cases henc

/-- The length of an encrypted response whose length byte and data fit the blocks (rule R254). -/
theorem responseLength_encrypted (hcs : s.CslenLegal) (hbyte : s.txodlen.toNat ≤ 255)
    (hblocks : 1 + s.txodlen.toNat ≤ s.cfg.maxN) :
    responseLength true s = .ok (s.cslen.toNat + 1 + ceil16 (1 + s.txodlen.toNat)) := by
  obtain ⟨hillegal, -⟩ | ⟨-, henc, -⟩ | ⟨-, -, hlong, -⟩ | ⟨-, -, -, -, hlen⟩ := responseLength_cases true s
  · exact absurd hcs (csLegal_eq_false_iff.mp hillegal)
  · cases henc
  · rw [State.respLen] at hlong; omega
  · exact hlen

/-- The length function refuses to encrypt a response whose length byte or data does not fit (rule R254). -/
theorem responseLength_too_long (hcs : s.CslenLegal)
    (hlong : 255 < s.txodlen.toNat ∨ s.cfg.maxN < 1 + s.txodlen.toNat) :
    responseLength true s = .error .invalidLength := by
  obtain ⟨hillegal, -⟩ | ⟨-, henc, -⟩ | ⟨-, -, -, hlen⟩ | ⟨-, -, hbyte, hblocks, -⟩ := responseLength_cases true s
  · exact absurd hcs (csLegal_eq_false_iff.mp hillegal)
  · cases henc
  · exact hlen
  · rw [State.respLen] at hbyte hblocks; omega

/-! ## FRAMELEN -/

/-- FRAMELEN stores the length where there is one (rule R249). -/
theorem exec_framelen_ok {enc : Bool} {n : Nat} (hlen : responseLength enc s = .ok n) :
    exec (.framelen enc) s = .next { s.completed with flen := BitVec.ofNat 16 n } := by
  obtain ⟨code, herror, -⟩ | ⟨m, hok, ht⟩ := execFramelen_cases (s := s) (enc := enc) rfl
  · rw [hlen] at herror; cases herror
  · rw [hlen] at hok; cases hok
    exact congrArg _ ht

/-- FRAMELEN is refused with the code of the length function (rule R249). -/
theorem exec_framelen_error {enc : Bool} {code : CmdError} (hlen : responseLength enc s = .error code) :
    exec (.framelen enc) s = .next (complete code s) := by
  obtain ⟨code', herror, ht⟩ | ⟨n, hok, -⟩ := execFramelen_cases (s := s) (enc := enc) rfl
  · rw [hlen] at herror; cases herror
    exact congrArg _ ht
  · rw [hlen] at hok; cases hok

/-! ## The refusals of ENCODE -/

/-- ENCODE with an illegal CSLEN (rule R257, the first test). -/
theorem exec_encode_illegal_cslen (enc : Bool) (hcs : ¬ s.CslenLegal) :
    exec (.encode enc) s = .next (complete .config (dropTx s)) := by
  have hillegal := csLegal_eq_false_iff.mpr hcs
  obtain ⟨-, ht⟩ | ⟨hlegal, -⟩ | ⟨hlegal, -⟩ | ⟨hlegal, -⟩ | ⟨hlegal, -⟩ :=
    execEncode_cases (s := s) (enc := enc) rfl
  · exact congrArg _ ht
  all_goals simp [hillegal] at hlegal

/-- ENCODE while silenced (rule R257, the second test). -/
theorem exec_encode_silenced (enc : Bool) (hcs : s.CslenLegal) (hsilent : silenced s = true) :
    exec (.encode enc) s = .next (complete .silenced (dropTx s)) := by
  obtain ⟨hillegal, -⟩ | ⟨-, -, ht⟩ | ⟨-, hheard, -⟩ | ⟨-, hheard, -⟩ | ⟨-, hheard, -⟩ :=
    execEncode_cases (s := s) (enc := enc) rfl
  · exact absurd hcs (csLegal_eq_false_iff.mp hillegal)
  · exact congrArg _ ht
  all_goals simp [hsilent] at hheard

/-- ENCODE with encryption but without a key (rule R257, the third test). -/
theorem exec_encode_no_key (hcs : s.CslenLegal) (hheard : ¬ silenced s = true) (hkey : s.keyen = false) :
    exec (.encode true) s = .next (complete .config (dropTx s)) := by
  obtain ⟨hillegal, -⟩ | ⟨-, hsilent, -⟩ | ⟨-, -, -, -, ht⟩ | ⟨-, -, hkeyed, -⟩ | ⟨-, -, hkeyed, -⟩ :=
    execEncode_cases (s := s) (enc := true) rfl
  · exact absurd hcs (csLegal_eq_false_iff.mp hillegal)
  · exact absurd hsilent hheard
  · exact congrArg _ ht
  all_goals simp [hkey] at hkeyed

/-- ENCODE where the earlier tests pass and the length function refuses (rule R257, the fourth test). -/
theorem exec_encode_error {enc : Bool} {code : CmdError} (hcs : s.CslenLegal) (hheard : ¬ silenced s = true)
    (hkey : enc = true → s.keyen = true) (hlen : responseLength enc s = .error code) :
    exec (.encode enc) s = .next (complete code (dropTx s)) := by
  obtain ⟨hillegal, -⟩ | ⟨-, hsilent, -⟩ | ⟨-, -, henc, hnokey, -⟩ | ⟨-, -, -, code', herror, ht⟩ |
      ⟨-, -, -, n, hok, -⟩ := execEncode_cases (s := s) (enc := enc) rfl
  · exact absurd hcs (csLegal_eq_false_iff.mp hillegal)
  · exact absurd hsilent hheard
  · simp [hkey henc] at hnokey
  · rw [hlen] at herror; cases herror
    exact congrArg _ ht
  · rw [hlen] at hok; cases hok

/-! ## The obligations -/

/-- Settles O46: TXCLEAR has one outcome, the completion of a state whose response buffers are empty. -/
theorem txclearEmptiesTheResponse : Obligations.TxclearEmptiesTheResponse :=
  ⟨decodes_txclear, fun _ => rfl⟩

/-- Settles O47: the three commands are the common body of rule R248 with 1, 2 and 4 bytes. -/
theorem pushAppendsLittleEndian : Obligations.PushAppendsLittleEndian := by
  refine ⟨decodes_push8, decodes_push16, decodes_push32, fun s => ⟨?over8, ?over16, ?over32, fun hexact => ?fits⟩⟩
  case over8 => exact fun hover => congrArg _ (push_overflow hover)
  case over16 => exact fun hover => congrArg _ (push_overflow hover)
  case over32 => exact fun hover => congrArg _ (push_overflow hover)
  case fits =>
    exact ⟨fun hfits => congrArg _ (push_fits hexact hfits), fun hfits => congrArg _ (push_fits hexact hfits),
      fun hfits => congrArg _ (push_fits hexact hfits)⟩

/-- Settles O49: FRAMELEN stores what the length function answers, or is refused with its code. -/
theorem framelenSizesTheFrame : Obligations.FramelenSizesTheFrame := by
  refine ⟨decodes_framelen, decodes_framelen_enc, fun s => ⟨fun hcs => ?plain, fun hcs hbyte hblocks => ?encrypted,
    fun enc hcs => ?cslen, fun hcs hlong => ?tooLong⟩⟩
  case plain => exact exec_framelen_ok (responseLength_plain hcs)
  case encrypted => exact exec_framelen_ok (responseLength_encrypted hcs hbyte hblocks)
  case cslen =>
    rw [exec_framelen_error (responseLength_illegal_cslen enc hcs), complete_eq_refusedWith (by decide)]; rfl
  case tooLong =>
    rw [exec_framelen_error (responseLength_too_long hcs hlong), complete_eq_refusedWith (by decide)]; rfl

/-- Settles O52: the four tests of ENCODE, each refusal being a completion of the state without its transmit frame. -/
theorem encodeRefusalsInOrder : Obligations.EncodeRefusalsInOrder := by
  rintro s u enc rfl
  simp only [← silenced_eq_true_iff]
  refine ⟨fun hcs => ?cslen, fun hcs hheld hparsed hbad => ?silenced, fun hcs hheard hkey => ?noKey,
    fun hcs hheard hkey hlong => ?tooLong⟩
  case cslen => rw [exec_encode_illegal_cslen enc hcs, complete_eq_refusedWith (by decide)]; rfl
  case silenced =>
    have hsilent := silenced_eq_true_iff.mpr ⟨hheld, hparsed, hbad⟩
    rw [exec_encode_silenced enc hcs hsilent, complete_eq_refusedWith (by decide)]; rfl
  case noKey => rw [exec_encode_no_key hcs hheard hkey, complete_eq_refusedWith (by decide)]; rfl
  case tooLong =>
    rw [exec_encode_error hcs hheard (fun _ => hkey) (responseLength_too_long hcs hlong),
      complete_eq_refusedWith (by decide)]; rfl

end Sys2Proof.Machine
end

section
/-! PROOF. The state after reset (rule R340): its register words, its zeroed byte windows and the invariants of rule
R53. -/

namespace Sys2Proof.Machine

/-! ## The words the Host reads after reset -/

/-- A clear flag sets no bit of its register. -/
theorem flagBit_false (i : Nat) : flagBit false i = 0 := by simp [flagBit]

/-- Both enables, RXEN and KEYEN are 0: the initial mode is idle with reception disabled (rule R340). -/
theorem ctrlWord_resetWith (cfg : Cfg) (env : Env) : ctrlWord (State.resetWith cfg env) = 0 := by
  simp [ctrlWord, State.resetWith, flagBit_false]

theorem statusWord_resetWith (cfg : Cfg) (env : Env) : statusWord (State.resetWith cfg env) = 0 := by
  simp [statusWord, State.resetWith, flagBit_false]

theorem fstatWord_resetWith (cfg : Cfg) (env : Env) : fstatWord (State.resetWith cfg env) = 0 := by
  simp [fstatWord, State.resetWith, modeBit, flagBit_false]

/-! ## The byte windows -/

/-- CALLSIGN has its configured length and no byte but 0. -/
theorem callsign_resetWith (cfg : Cfg) (env : Env) :
    (State.resetWith cfg env).callsign.length = cfg.maxCallsignLen ∧
      ∀ b ∈ (State.resetWith cfg env).callsign, b = 0 :=
  ⟨List.length_replicate, fun _ hb => List.eq_of_mem_replicate hb⟩

/-- No key outlives a reset. -/
theorem key_resetWith (cfg : Cfg) (env : Env) : ∀ b ∈ (State.resetWith cfg env).key.1, b = 0 :=
  fun _ hb => List.eq_of_mem_replicate hb

/-! ## The invariants -/

/-- Rule R53 (a) to (g): CMDERR agrees with CERR = 0, and every other flag whose being set would owe something is
clear. -/
theorem flagInv_resetWith (cfg : Cfg) (env : Env) : (State.resetWith cfg env).FlagInv := by
  have hcmderr : (State.resetWith cfg env).CmderrIsCerr := ⟨nofun, fun hcerr => absurd rfl hcerr⟩
  exact ⟨nofun, hcmderr, nofun, nofun, nofun, nofun, nofun, nofun⟩

/-- Rule R53 (h): reset holds no frame and leaves no trace of one. -/
theorem noFrameNoTrace_resetWith (cfg : Cfg) (env : Env) : (State.resetWith cfg env).NoFrameNoTrace :=
  fun _ => ⟨rfl, ⟨rfl, rfl, rfl, rfl, rfl, rfl, rfl⟩, rfl, rfl, rfl, rfl⟩

/-- Rule R53 (j): the empty response fits every configuration. -/
theorem txodExact_resetWith (cfg : Cfg) (env : Env) : (State.resetWith cfg env).TxodExact :=
  ⟨Nat.zero_le _, rfl⟩

/-- Rule R53 (k): no transmit frame is valid, and TXBUF is empty. -/
theorem txbufExact_resetWith (cfg : Cfg) (env : Env) : (State.resetWith cfg env).TxbufExact :=
  ⟨nofun, fun _ => ⟨rfl, rfl⟩⟩

/-- Rule R53 (l): the empty log owes no count, and no frame is held that would be owed one. -/
theorem countedOnce_resetWith (cfg : Cfg) (env : Env) : (State.resetWith cfg env).CountedOnce := by
  have hlog : countLog (State.resetWith cfg env).evlog = some .none := rfl
  have hfree : (State.resetWith cfg env).dataReceived = false := rfl
  unfold State.CountedOnce
  simp [hlog, hfree]

/-- The invariants of rule R53 hold after reset (rule R340, its last sentence). -/
theorem inv_resetWith (cfg : Cfg) (env : Env) : (State.resetWith cfg env).Inv :=
  ⟨flagInv_resetWith cfg env, noFrameNoTrace_resetWith cfg env, nofun, txodExact_resetWith cfg env,
    txbufExact_resetWith cfg env, countedOnce_resetWith cfg env⟩

/-! ## The obligation -/

/-- Settles O44: the register words, the zeroed windows and the invariants by the lemmas above; every other row of the
table is a field of the reset state. -/
theorem resetStateIsTheTable : Obligations.ResetStateIsTheTable := by
  rintro cfg env s rfl
  exact ⟨ctrlWord_resetWith cfg env, rfl, statusWord_resetWith cfg env, fstatWord_resetWith cfg env, rfl, rfl,
    callsign_resetWith cfg env, key_resetWith cfg env, rfl, rfl, rfl, rfl, rfl, rfl, rfl, rfl, rfl, rfl, rfl, rfl,
    rfl, rfl, rfl, inv_resetWith cfg env⟩

end Sys2Proof.Machine
end

section
/-! PROOF. The decoder over both formats of the opcode table (rules R103, R110 to R112): the class of a function-id
byte, which words are illegal, and that decoding and encoding are inverse to each other on the well-formed
instructions. -/

namespace Sys2Proof.Machine

/-! ## The classes of the function ids -/

/-- Everything the partition of the function ids can answer (rule R103). -/
theorem decodeFid_cases (cfg : Cfg) (f : Byte) :
    (f.toNat < cfg.privateOffset ∧ decodeFid cfg f = .framePublic f) ∨
    (PrivateFid cfg f ∧ decodeFid cfg f = .framePrivate f) ∨
    (cfg.privateOffset + cfg.numPrivateCommands < f.toNat ∧ decodeFid cfg f = .frameInvalid f) := by
  unfold decodeFid PrivateFid
  by_cases hpublic : f.toNat < cfg.privateOffset
  · exact .inl ⟨hpublic, by rw [if_pos hpublic]⟩
  · by_cases hprivate : f.toNat ≤ cfg.privateOffset + cfg.numPrivateCommands
    · exact .inr (.inl ⟨⟨by omega, hprivate⟩, by rw [if_neg hpublic, if_pos hprivate]⟩)
    · exact .inr (.inr ⟨by omega, by rw [if_neg hpublic, if_neg hprivate]⟩)

theorem decodeFid_eq_framePublic_iff {cfg : Cfg} {f : Byte} :
    decodeFid cfg f = .framePublic f ↔ f.toNat < cfg.privateOffset := by
  obtain ⟨hclass, hdec⟩ | ⟨⟨hlow, -⟩, hdec⟩ | ⟨hclass, hdec⟩ := decodeFid_cases cfg f <;> simp [hdec] <;> omega

theorem decodeFid_eq_framePrivate_iff {cfg : Cfg} {f : Byte} :
    decodeFid cfg f = .framePrivate f ↔ PrivateFid cfg f := by
  obtain ⟨hclass, hdec⟩ | ⟨hclass, hdec⟩ | ⟨hclass, hdec⟩ := decodeFid_cases cfg f <;> simp [hdec] <;> omega

theorem decodeFid_eq_frameInvalid_iff {cfg : Cfg} {f : Byte} :
    decodeFid cfg f = .frameInvalid f ↔ cfg.privateOffset + cfg.numPrivateCommands < f.toNat := by
  obtain ⟨hclass, hdec⟩ | ⟨⟨-, hhigh⟩, hdec⟩ | ⟨hclass, hdec⟩ := decodeFid_cases cfg f <;> simp [hdec] <;> omega

/-- The range of FRAME.PRIVATE is closed at both ends, so it holds one byte more than NUM_PRIVATE_COMMANDS (rule
R103). -/
theorem card_privateFid {cfg : Cfg} (hrange : cfg.privateOffset + cfg.numPrivateCommands ≤ 255) :
    (Finset.univ.filter fun f : Byte => PrivateFid cfg f).card = cfg.numPrivateCommands + 1 := by
  have hbij : (Finset.univ.filter fun f : Byte => PrivateFid cfg f).card =
      (Finset.Icc cfg.privateOffset (cfg.privateOffset + cfg.numPrivateCommands)).card := by
    refine Finset.card_nbij' BitVec.toNat (BitVec.ofNat 8) (fun f hf => ?_) (fun n hn => ?_) (fun f _ => ?_)
      (fun n hn => ?_)
    · simpa using hf
    · have hn' := Finset.mem_Icc.mp hn
      have hmod : n % 256 = n := by omega
      simpa [PrivateFid, hmod] using hn'
    · simp
    · have hn' := Finset.mem_Icc.mp hn
      simp; omega
  rw [hbij, Nat.card_Icc]; omega

/-! ## The two directions -/

/-- Settles O1: a command's encoding decodes to it, and a FRAME row's byte is of its own class. -/
theorem decodeOfEncodeIsTheInstruction : Obligations.DecodeOfEncodeIsTheInstruction := by
  intro cfg i hwf
  cases hcode : encode i with
  | word w => exact decodeWord_of_encode hcode
  | fid f =>
    cases i with
    | framePublic =>
      cases hcode
      exact congrArg Decoded.instr (decodeFid_eq_framePublic_iff.mpr (of_decide_eq_true hwf))
    | framePrivate =>
      cases hcode
      exact congrArg Decoded.instr (decodeFid_eq_framePrivate_iff.mpr (of_decide_eq_true hwf))
    | frameInvalid =>
      cases hcode
      exact congrArg Decoded.instr (decodeFid_eq_frameInvalid_iff.mpr (of_decide_eq_true hwf))
    | _ => cases hcode

/-- A command is well formed in every configuration. -/
theorem wf_of_encode_word {cfg : Cfg} {i : Instr} {w : Word} (h : encode i = .word w) : i.wf cfg = true := by
  cases i with
  | framePublic f | framePrivate f | frameInvalid f => cases h
  | _ => rfl

/-- Settles O2: a word by the decoder's own inverse, a byte by its class. -/
theorem encodeOfDecodeIsTheCode : Obligations.EncodeOfDecodeIsTheCode := by
  intro cfg c i hdec
  cases c with
  | word w =>
    have henc := encode_of_decodeWord hdec
    exact ⟨henc, wf_of_encode_word henc⟩
  | fid f =>
    obtain rfl : decodeFid cfg f = i := Decoded.instr.inj hdec
    obtain ⟨hclass, hf⟩ | ⟨hclass, hf⟩ | ⟨hclass, hf⟩ := decodeFid_cases cfg f <;> rw [hf]
    · exact ⟨rfl, decide_eq_true hclass⟩
    · exact ⟨rfl, decide_eq_true hclass⟩
    · exact ⟨rfl, decide_eq_true hclass⟩

/-- Settles O4: the five words are among those that rule R111 spells out. -/
theorem wordsOfTheTableDecode : Obligations.WordsOfTheTableDecode :=
  ⟨decodes_nop, decodes_parse, decodes_release_rej, decodes_encode_enc, decodes_push32⟩

/-- Settles O6: each class is the condition the decoder tests, and that of FRAME.PRIVATE is a closed range of numbers.
-/
theorem functionIdClassesPartition : Obligations.FunctionIdClassesPartition := by
  intro cfg
  simp only [decode, Decoded.instr.injEq, ne_eq, decodeFid_eq_framePublic_iff, decodeFid_eq_framePrivate_iff,
    decodeFid_eq_frameInvalid_iff]
  refine ⟨fun f => ⟨trivial, trivial, trivial, fun hall => ?_, fun hnone => ?_⟩, card_privateFid⟩
  · have := f.isLt; omega
  · omega

/-! ## The illegal words -/

/-- A word is illegal exactly for one of the four causes of rule R112. -/
theorem decodeWord_illegal_iff {w : Word} : (∃ e, decodeWord w = .illegal e) ↔
    rsvField w ≠ 0 ∨ 0x09 ≤ (opcField w).toNat ∨
      (encField w = true ∧ opcField w ≠ 0x03 ∧ opcField w ≠ 0x04) ∨
      (rejField w = true ∧ opcField w ≠ 0x02) := by
  constructor
  · rintro ⟨e, he⟩
    by_contra hlegal
    simp only [not_or, not_and, ne_eq, not_not, not_le] at hlegal
    obtain ⟨hrsv, hopc, henc, hrej⟩ := hlegal
    have hcode : opcField w = 0 ∨ opcField w = 1 ∨ opcField w = 2 ∨ opcField w = 3 ∨ opcField w = 4 ∨
        opcField w = 5 ∨ opcField w = 6 ∨ opcField w = 7 ∨ opcField w = 8 := by bv_omega
    rcases hcode with hcode | hcode | hcode | hcode | hcode | hcode | hcode | hcode | hcode
    all_goals
      simp [hcode] at henc hrej
      simp [decodeWord, hrsv, hcode, henc, hrej] at he
  · intro hcause
    cases hdec : decodeWord w with
    | illegal e => exact ⟨e, rfl⟩
    | instr i =>
      obtain ⟨hrsv, hopc, henc, hrej⟩ := decodeWord_instr_fields hdec
      grind

end Sys2Proof.Machine
end

section
/-! PROOF. The Host's reads (rules R83 to R86, R140, R152): the register map both ways, the words of the flag
registers, and what a read answers while idle and while BUSY. -/

namespace Sys2Proof.Machine

variable {s : State} {off : Half} {rest : List AgentStep}

/-! ## The register map -/

/-- The RXBUF window stands from 0x2000 on (rule R83). -/
theorem regAt_rxbuf {cfg : Cfg} {i : Nat} (hi : i < cfg.rxCap) (hoff : off.toNat = 0x2000 + 4 * i) :
    regAt cfg off = .rxbuf i := by
  have hbound := cfg_bounds cfg
  have hpage : (0x2000 + 4 * i) / 0x1000 = 2 := by omega
  simp only [regAt, hoff, hpage, windowReg_at hi]

/-- The OPTDATA window stands from 0x3000 on (rule R83). -/
theorem regAt_optdata {cfg : Cfg} {i : Nat} (hi : i < cfg.maxOptDataLength) (hoff : off.toNat = 0x3000 + 4 * i) :
    regAt cfg off = .optdata i := by
  have hbound := cfg_bounds cfg
  have hcap := cfg_caps cfg
  have hpage : (0x3000 + 4 * i) / 0x1000 = 3 := by omega
  simp only [regAt, hoff, hpage, windowReg_at hi]

/-- The TXOD window stands from 0x4000 on (rule R83). -/
theorem regAt_txod {cfg : Cfg} {i : Nat} (hi : i < cfg.maxOptDataLength) (hoff : off.toNat = 0x4000 + 4 * i) :
    regAt cfg off = .txod i := by
  have hbound := cfg_bounds cfg
  have hcap := cfg_caps cfg
  have hpage : (0x4000 + 4 * i) / 0x1000 = 4 := by omega
  simp only [regAt, hoff, hpage, windowReg_at hi]

/-- The TXBUF window stands from 0x5000 on (rule R83). -/
theorem regAt_txbuf {cfg : Cfg} {i : Nat} (hi : i < cfg.txCap) (hoff : off.toNat = 0x5000 + 4 * i) :
    regAt cfg off = .txbuf i := by
  have hbound := cfg_bounds cfg
  have hcap := cfg_caps cfg
  have hpage : (0x5000 + 4 * i) / 0x1000 = 5 := by omega
  simp only [regAt, hoff, hpage, windowReg_at hi]

/-- A number of 16 bits written as an offset is that offset. -/
theorem toNat_offset {n : Nat} (hn : n < 0x10000) : (BitVec.ofNat 16 n).toNat = n := by
  rw [BitVec.toNat_ofNat]; omega

/-- Settles O18: the windows and KEY by their place in the map, the single registers one by one. -/
theorem registerMapIsOneToOne : Obligations.RegisterMapIsOneToOne := by
  intro cfg r hr
  have hbound := cfg_bounds cfg
  have hcap := cfg_caps cfg
  cases r with
  | unmapped => exact absurd hr id
  | key m =>
    have hm : m < 4 := hr
    have hoff : (offsetOf (.key m)).toNat = 0x0040 + 4 * m := toNat_offset (by omega)
    exact ⟨by omega, regAt_key hm hoff⟩
  | callsign i =>
    have hi : i < cfg.maxCallsignLen := hr
    have hoff : (offsetOf (.callsign i)).toNat = 0x1000 + 4 * i := toNat_offset (by omega)
    exact ⟨by omega, regAt_callsign hi hoff⟩
  | rxbuf i =>
    have hi : i < cfg.rxCap := hr
    have hoff : (offsetOf (.rxbuf i)).toNat = 0x2000 + 4 * i := toNat_offset (by omega)
    exact ⟨by omega, regAt_rxbuf hi hoff⟩
  | optdata i =>
    have hi : i < cfg.maxOptDataLength := hr
    have hoff : (offsetOf (.optdata i)).toNat = 0x3000 + 4 * i := toNat_offset (by omega)
    exact ⟨by omega, regAt_optdata hi hoff⟩
  | txod i =>
    have hi : i < cfg.maxOptDataLength := hr
    have hoff : (offsetOf (.txod i)).toNat = 0x4000 + 4 * i := toNat_offset (by omega)
    exact ⟨by omega, regAt_txod hi hoff⟩
  | txbuf i =>
    have hi : i < cfg.txCap := hr
    have hoff : (offsetOf (.txbuf i)).toNat = 0x5000 + 4 * i := toNat_offset (by omega)
    exact ⟨by omega, regAt_txbuf hi hoff⟩
  | _ => exact ⟨rfl, rfl⟩

/-! ## The words of the flag registers -/

/-- A flag's word has the flag at its own bit and 0 elsewhere. -/
theorem getLsbD_flagBit {b : Bool} {i j : Nat} (hi : i < 32) : (flagBit b i).getLsbD j = (decide (j = i) && b) := by
  simp only [flagBit, BitVec.getLsbD_shiftLeft, BitVec.getLsbD_setWidth, BitVec.getLsbD_ofBool]
  grind

/-- A register word of six flags and a code byte, as STATUS and FSTAT are (rules R25, R26). -/
def codeWord (b0 b1 b2 b3 b4 b5 : Bool) (code : Byte) : Word :=
  flagBit b0 0 ||| flagBit b1 1 ||| flagBit b2 2 ||| flagBit b3 3 ||| flagBit b4 4 ||| flagBit b5 5 |||
    (code.setWidth 32 <<< 8)

/-- Every bit of such a word. -/
theorem getLsbD_codeWord (b0 b1 b2 b3 b4 b5 : Bool) (code : Byte) (j : Nat) :
    (codeWord b0 b1 b2 b3 b4 b5 code).getLsbD j =
      (decide (j = 0) && b0 || decide (j = 1) && b1 || decide (j = 2) && b2 || decide (j = 3) && b3 ||
        decide (j = 4) && b4 || decide (j = 5) && b5 ||
        decide (j < 32) && !decide (j < 8) && (decide (j - 8 < 32) && code.getLsbD (j - 8))) := by
  simp only [codeWord, BitVec.getLsbD_or, getLsbD_flagBit, Nat.reduceLT, BitVec.getLsbD_shiftLeft,
    BitVec.getLsbD_setWidth]

/-- The fields of such a word. -/
theorem codeWord_fields {b0 b1 b2 b3 b4 b5 : Bool} {code : Byte} {w : Word} (hw : w = codeWord b0 b1 b2 b3 b4 b5 code) :
    w.getLsbD 0 = b0 ∧ w.getLsbD 1 = b1 ∧ w.getLsbD 2 = b2 ∧ w.getLsbD 3 = b3 ∧ w.getLsbD 4 = b4 ∧ w.getLsbD 5 = b5 ∧
      w.extractLsb' 6 2 = 0 ∧ w.extractLsb' 8 8 = code ∧ w.extractLsb' 16 16 = 0 := by
  have hbit (j : Nat) := hw ▸ getLsbD_codeWord b0 b1 b2 b3 b4 b5 code j
  refine ⟨(hbit 0).trans (by simp), (hbit 1).trans (by simp), (hbit 2).trans (by simp), (hbit 3).trans (by simp),
    (hbit 4).trans (by simp), (hbit 5).trans (by simp), ?low, ?code, ?high⟩
  all_goals
    refine BitVec.eq_of_getLsbD_eq fun j hj => ?_
    rw [BitVec.getLsbD_extractLsb', hbit]
    grind

/-- CTRL is such a word with four flags only (rule R23). -/
theorem ctrlWord_eq_codeWord (s : State) : ctrlWord s = codeWord s.rxen s.keyen s.ieRx s.ieDone false false 0 := by
  simp [codeWord, ctrlWord, flagBit_false]

/-- Settles O13: STATUS and FSTAT are six flags and a code; CTRL is the same with four flags only. -/
theorem flagWordsHoldTheirFields : Obligations.FlagWordsHoldTheirFields := by
  intro s
  refine ⟨codeWord_fields rfl, ?fstat, ?ctrl⟩
  case fstat =>
    obtain ⟨hparsed, hparseOk, hcounted, hmode, hrest⟩ := codeWord_fields (w := fstatWord s) rfl
    refine ⟨hparsed, hparseOk, hcounted, ?_, hrest⟩
    rw [hmode]
    cases s.mode <;> decide
  case ctrl =>
    obtain ⟨hrxen, hkeyen, hieRx, hieDone, -⟩ := codeWord_fields (ctrlWord_eq_codeWord s)
    refine ⟨hrxen, hkeyen, hieRx, hieDone, BitVec.eq_of_getLsbD_eq fun j hj => ?_⟩
    rw [BitVec.getLsbD_extractLsb', ctrlWord_eq_codeWord, getLsbD_codeWord]
    grind

/-! ## Reads while idle -/

/-- The step that an aligned read is while BUSY = 0 (rule R140): the Host receives the register's value. -/
theorem step_regRead_idle {r : Reg} (hp : s.env.pending = .regRead off :: rest) (ha : off.toNat % 4 = 0)
    (hb : s.busy = false) (hr : regAt s.cfg off = r) :
    step s = .next { s with env := { pending := rest, rdata := idleRead s r, draws := s.env.draws } } := by
  rw [step_regRead hp ha, regRead_idle (s := s.withPending rest) off hb, withPending_cfg, hr]
  cases r <;> rfl

/-- From 0x0038 to 0x0FFF nothing stands but KEY, which reads 0 (rules R32, R86). -/
theorem idleRead_lowReg_past {n : Nat} (hn : 0x0038 ≤ n) : idleRead s (lowReg n) = 0 := by
  unfold lowReg
  split <;> simp_all [idleRead]

/-- Where no register of a buffer stands, a read answers 0 (rules R32, R83, R86). -/
theorem idleRead_outside (hoff : off = 0x0004 ∨ (0x0038 ≤ off.toNat ∧ off.toNat < 0x1000) ∨
    (0x1000 + 4 * s.cfg.maxCallsignLen ≤ off.toNat ∧ off.toNat < 0x2000) ∨
    (0x2000 + 4 * s.cfg.rxCap ≤ off.toNat ∧ off.toNat < 0x3000) ∨
    (0x3000 + 4 * s.cfg.maxOptDataLength ≤ off.toNat ∧ off.toNat < 0x4000) ∨
    (0x4000 + 4 * s.cfg.maxOptDataLength ≤ off.toNat ∧ off.toNat < 0x5000) ∨
    (0x5000 + 4 * s.cfg.txCap ≤ off.toNat ∧ off.toNat < 0x6000) ∨ 0x6000 ≤ off.toNat) :
    idleRead s (regAt s.cfg off) = 0 := by
  obtain rfl | hoff := hoff
  · rfl
  unfold regAt
  split
  case h_1 => exact idleRead_lowReg_past (by omega)
  case h_7 => rfl
  all_goals
    rw [windowReg_past (by omega)]
    rfl

/-- Settles O14: the answer is the register the map names; each window inside its extent, and 0 outside. -/
theorem hostReadsWhileIdle : Obligations.HostReadsWhileIdle := by
  intro s off rest ha hb hp
  refine ⟨idleRead s (regAt s.cfg off), step_regRead_idle hp ha hb rfl, by rintro rfl; rfl, by rintro rfl; rfl,
    by rintro rfl; rfl, by rintro rfl; rfl, by rintro rfl; rfl, by rintro rfl; rfl, by rintro rfl; rfl,
    by rintro rfl; rfl, by rintro rfl; rfl, by rintro rfl; rfl, by rintro rfl; rfl, by rintro rfl; rfl,
    by rintro rfl; rfl, ?callsign, ?rxbuf, ?optdata, ?txod, ?txbuf, idleRead_outside⟩
  case callsign => intro i hi hoff; rw [regAt_callsign hi hoff]; rfl
  case rxbuf => intro i hi hoff; simp [regAt_rxbuf hi hoff, idleRead, windowWord, bufByte, State.frameLen]
  case optdata => intro i hi hoff; simp [regAt_optdata hi hoff, idleRead, windowWord, bufByte]
  case txod =>
    intro i hi hoff
    by_cases hin : i < s.txodlen.toNat <;> simp [regAt_txod hi hoff, idleRead, windowWord, bufByte, State.respLen, hin]
  case txbuf => intro i hi hoff; simp [regAt_txbuf hi hoff, idleRead, windowWord, bufByte]

/-! ## Reads and writes while BUSY, and offsets the bus cannot carry -/

/-- Settles O15: a write while BUSY by its own lemma; a read writes the Host's side alone. -/
theorem busyDiscipline : Obligations.BusyDiscipline := by
  intro s off rest hb ha
  refine ⟨fun v hp => step_regWrite_busy hp ha hb, fun hp => ?_⟩
  refine ⟨(regRead off (s.withPending rest)).env, regRead_pending off _, ?_, ?_, ?_⟩
  · rw [step_regRead hp ha]
    exact congrArg _ (regRead_only_env off (s.withPending rest))
  · rintro rfl; rfl
  · rintro rfl; rfl

/-- A bus step at an offset that is not a multiple of 4 (rule R75). -/
theorem onBus_misaligned (hoff : off.toNat % 4 ≠ 0) (u : State) : onBus off u = .refused (.misalignedOffset off) := by
  simp [onBus, aligned, hoff]

/-- Settles O17: both bus steps are onBus steps. -/
theorem misalignedOffsetIsRefused : Obligations.MisalignedOffsetIsRefused := by
  intro s off v rest hoff
  exact ⟨fun hp => by rw [step, hp]; exact onBus_misaligned hoff _,
    fun hp => by rw [step, hp]; exact onBus_misaligned hoff _⟩

/-! ## The key -/

/-- The block with another key. -/
def withKey (k : Block) (s : State) : State := { s with key := k }

/-- No register's value tells the key (rule R32). -/
theorem idleRead_withKey (k : Block) (r : Reg) : idleRead (withKey k s) r = idleRead s r := by
  cases r <;> rfl

/-- A read while BUSY = 1: STATUS and CTRL are exact, the rest is free (rule R152). -/
theorem regRead_busy (off : Half) (hb : s.busy = true) : regRead off s =
    if regAt s.cfg off = .status then answer (statusWord s) s
    else if regAt s.cfg off = .ctrl then answer (ctrlWord s) s
    else answerFree s := by
  unfold regRead
  cases regAt s.cfg off <;> simp [hb]

/-- A read of a block with another key answers the same (rules R32, R87; while BUSY by log entry 4). -/
theorem regRead_withKey (k : Block) (off : Half) (s : State) :
    regRead off (withKey k s) = withKey k (regRead off s) := by
  cases hb : s.busy with
  | false =>
    rw [regRead_idle off hb, regRead_idle (s := withKey k s) off hb, idleRead_withKey]; rfl
  | true =>
    rw [regRead_busy off hb, regRead_busy (s := withKey k s) off hb, apply_ite (withKey k), apply_ite (withKey k)]
    rfl

/-- A planned read that is not refused is regRead. -/
theorem eq_regRead_of_step {t : State} (hp : s.env.pending = .regRead off :: rest) (h : step s = .next t) :
    t = regRead off (s.withPending rest) := by
  rw [step, hp] at h
  exact (onBus_next h).2

/-- Settles O19: both steps are the same read, of blocks that differ in KEY. -/
theorem keyIsNeverReadBack : Obligations.KeyIsNeverReadBack := by
  intro s t t' k off rest hp h h'
  obtain rfl := eq_regRead_of_step hp h
  obtain rfl := eq_regRead_of_step (s := withKey k s) hp h'
  have hread : regRead off ((withKey k s).withPending rest) = withKey k (regRead off (s.withPending rest)) :=
    regRead_withKey k off (s.withPending rest)
  rw [hread]
  exact ⟨rfl, rfl⟩

end Sys2Proof.Machine
end

section
/-! PROOF. PARSE (rules R175 to R182, R220 to R222): the three FRAME rows as exact states, PARSE as the row of its
function-id byte, its rejections before that, and what every judged frame has in common. -/

namespace Sys2Proof.Machine

variable {s t u : State} {f : Byte}

/-! ## The lengths and regions in the words of the claims -/

/-- S of 42_decrypt_gate.md: the E bytes after the function id. -/
theorem region_eq (s : State) : s.region = (s.rxbuf.drop (s.cslen.toNat + 1)).take s.regionLength := by
  rw [State.region, slice, Nat.add_sub_cancel_left]; rfl

/-- The number of blocks of rules R219 and R255, as the claims write it. -/
theorem blocksFor_eq (n : Nat) : blocksFor n = (1 + n + 15) / 16 := by
  unfold blocksFor ceil16; omega

/-! ## Stage 4P and the gate, test by test -/

/-- Stage 4P where the optional data does not fit (rule R181). -/
theorem plaintextStage_long (hlong : s.cfg.maxOptDataLength < s.sectionLen) :
    plaintextStage s = reject .invalidLength s := by
  obtain ⟨-, hstage⟩ | ⟨hfits, -⟩ := plaintextStage_cases s
  · exact hstage
  · omega

/-- Stage 4P where the optional data fits (rules R181, R182). -/
theorem plaintextStage_fits (hfits : s.sectionLen ≤ s.cfg.maxOptDataLength) :
    plaintextStage s = accept { s with optlen := BitVec.ofNat 16 s.sectionLen, optdata := s.region } := by
  obtain ⟨hlong, -⟩ | ⟨-, hstage⟩ := plaintextStage_cases s
  · omega
  · exact hstage

/-- The gate without a key or without whole blocks (rule R220, steps a and b). -/
theorem gateStage_no_section (hsec : ¬ SectionOk s) : gateStage s = reject .decryptionFailed s := by
  obtain ⟨-, hgate⟩ | ⟨hok, -⟩ | ⟨hok, -⟩ | ⟨hok, -⟩ | ⟨hok, -⟩ := gateStage_cases s
  · exact hgate
  all_goals exact absurd hok hsec

/-- The gate with a length byte above MAXN (rule R220, step d): the clamp. -/
theorem gateStage_clamped (hsec : SectionOk s) (hclamp : s.cfg.maxN < s.lengthByte) :
    gateStage s = reject .incorrectPassword { countAes 1 s with optlen := BitVec.ofNat 16 s.cfg.maxN } := by
  obtain ⟨hno, -⟩ | ⟨-, -, hgate⟩ | ⟨-, hle, -⟩ | ⟨-, hle, -⟩ | ⟨-, hle, -⟩ := gateStage_cases s
  · exact absurd hsec hno
  · exact hgate
  all_goals omega

/-- The gate with a length byte too large for the section (rule R220, step e). -/
theorem gateStage_short (hsec : SectionOk s) (hle : s.lengthByte ≤ s.cfg.maxN)
    (hshort : s.sectionLen < 1 + s.lengthByte) : gateStage s = reject .decryptionFailed (countAes 1 s) := by
  obtain ⟨hno, -⟩ | ⟨-, hclamp, -⟩ | ⟨-, -, -, hgate⟩ | ⟨-, -, hroom, -⟩ | ⟨-, -, hroom, -⟩ := gateStage_cases s
  · exact absurd hsec hno
  · omega
  · exact hgate
  all_goals omega

/-- The gate with more data than OPTDATA holds (rule R220, step f). -/
theorem gateStage_long (hsec : SectionOk s) (hle : s.lengthByte ≤ s.cfg.maxN)
    (hroom : 1 + s.lengthByte ≤ s.sectionLen) (hlong : s.cfg.maxOptDataLength < s.lengthByte) :
    gateStage s = reject .invalidLength (countAes 1 s) := by
  obtain ⟨hno, -⟩ | ⟨-, hclamp, -⟩ | ⟨-, -, hshort, -⟩ | ⟨-, -, -, -, hgate⟩ | ⟨-, -, -, hfits, -⟩ :=
    gateStage_cases s
  · exact absurd hsec hno
  · omega
  · omega
  · exact hgate
  · omega

/-- The gate where every test passes (rule R220, step g). -/
theorem gateStage_passes (hsec : SectionOk s) (hle : s.lengthByte ≤ s.cfg.maxN)
    (hroom : 1 + s.lengthByte ≤ s.sectionLen) (hfits : s.lengthByte ≤ s.cfg.maxOptDataLength) :
    gateStage s = accept
      { countAes (blocksFor s.lengthByte) s with
        optlen := BitVec.ofNat 16 s.lengthByte
        optdata := slice (s.decrypted (blocksFor s.lengthByte)) 1 (1 + s.lengthByte) } := by
  obtain ⟨hno, -⟩ | ⟨-, hclamp, -⟩ | ⟨-, -, hshort, -⟩ | ⟨-, -, -, hlong, -⟩ | ⟨-, -, -, -, hgate⟩ :=
    gateStage_cases s
  · exact absurd hsec hno
  · omega
  · omega
  · omega
  · exact hgate

/-! ## The FRAME rows -/

/-- FRAME.PUBLIC completes what stage 4P answers (rules R103, R181). -/
theorem exec_framePublic (hstage : plaintextStage (setMode .plaintext (latchFid f s)) = u) :
    exec (.framePublic f) s = .next (complete .none u) := by
  rw [← hstage]; rfl

/-- FRAME.PRIVATE completes what the gate answers (rules R103, R212 to R220). -/
theorem exec_framePrivate (hgate : gateStage (setMode .encrypted (latchFid f s)) = u) :
    exec (.framePrivate f) s = .next (complete .none u) := by
  rw [← hgate]; rfl

/-- Settles O28: stage 4P accepts the region of the frame. -/
theorem framePublicCompletes : Obligations.FramePublicCompletes := by
  intro s f hfits
  rw [← region_eq]
  exact exec_framePublic (plaintextStage_fits hfits)

/-- Settles O29: the gate's last step, with its slice and its number of blocks written out. -/
theorem framePrivateCompletes : Obligations.FramePrivateCompletes := by
  intro s f hsec hle hroom hfits
  have hdata : slice (s.decrypted (blocksFor s.lengthByte)) 1 (1 + s.lengthByte) =
      ((s.decrypted (blocksFor s.lengthByte)).drop 1).take s.lengthByte := by
    rw [slice, Nat.add_sub_cancel_left]
  rw [← region_eq, ← blocksFor_eq, exec_framePrivate (gateStage_passes hsec hle hroom hfits)]
  simp only [setMode_lengthByte, latchFid_lengthByte, setMode_decrypted, latchFid_decrypted, hdata]
  rfl

/-- Settles O30: the row is a rejection with FID latched. -/
theorem frameInvalidCompletes : Obligations.FrameInvalidCompletes :=
  fun _ _ => rfl

/-- Settles O31: stage 4P, and the gate's tests in their order. -/
theorem frameRowsReject : Obligations.FrameRowsReject := by
  intro s f
  refine ⟨fun hlong => ?tooLong, fun hsec => ?noSection, fun hsec hclamp => ?clamped, fun hsec hle hshort => ?short,
    fun hsec hle hroom hlong => ?noRoom⟩
  case tooLong => exact exec_framePublic (plaintextStage_long hlong)
  case noSection => exact exec_framePrivate (gateStage_no_section hsec)
  case clamped => exact exec_framePrivate (gateStage_clamped hsec hclamp)
  case short => exact exec_framePrivate (gateStage_short hsec hle hshort)
  case noRoom => exact exec_framePrivate (gateStage_long hsec hle hroom hlong)

/-! ## PARSE -/

/-- PARSE that is not refused judges the frame (rule R175). -/
theorem exec_parse_enabled (hen : s.ParseEnabled) : exec .parse s = .next (complete .none (judgeFrame s)) := by
  obtain ⟨hheld, hnew, hcs⟩ := hen
  obtain ⟨hno, -⟩ | ⟨-, -, hillegal, -⟩ | ⟨-, -, -, ht⟩ := execParse_cases (s := s) rfl
  · simp [hheld, hnew] at hno
  · exact absurd hcs (csLegal_eq_false_iff.mp hillegal)
  · exact congrArg _ ht

/-- A frame that passes stages 1 and 2 is judged by the class of its function-id byte (rules R176, R180). -/
theorem judgeFrame_of_reachesFid (hreach : s.ReachesFid f) :
    judgeFrame s = classifiedFrame (decodeFid s.cfg f) s := by
  obtain ⟨-, hmatch, hlen, rfl⟩ := hreach
  rw [judgeFrame, (callsignMismatch_eq_false s).mpr hmatch, (structuralLengthBad_eq_false s).mpr hlen]
  rfl

/-- A FRAME row performs its class of stages 3 and 4 (log entry 5). -/
theorem exec_decodeFid (cfg : Cfg) (f : Byte) (s : State) :
    exec (decodeFid cfg f) s = .next (complete .none (classifiedFrame (decodeFid cfg f) s)) := by
  obtain ⟨-, hdec⟩ | ⟨-, hdec⟩ | ⟨-, hdec⟩ := decodeFid_cases cfg f <;> rw [hdec] <;> rfl

/-- Settles O8: both sides complete the same judgement. -/
theorem parseRunsTheFrameClass : Obligations.ParseRunsTheFrameClass := by
  intro s f hreach
  rw [exec_parse_enabled hreach.1, judgeFrame_of_reachesFid hreach, exec_decodeFid]

/-- PARSE of a frame in the plaintext class is the row FRAME.PUBLIC. -/
theorem exec_parse_public (hreach : s.ReachesFid f) (hclass : f.toNat < s.cfg.privateOffset) :
    exec .parse s = exec (.framePublic f) s := by
  rw [parseRunsTheFrameClass s f hreach, decodeFid_eq_framePublic_iff.mpr hclass]

/-- PARSE of a frame in the encrypted class is the row FRAME.PRIVATE. -/
theorem exec_parse_private (hreach : s.ReachesFid f) (hclass : PrivateFid s.cfg f) :
    exec .parse s = exec (.framePrivate f) s := by
  rw [parseRunsTheFrameClass s f hreach, decodeFid_eq_framePrivate_iff.mpr hclass]

/-- Stage 1 fails (rule R177). -/
theorem judgeFrame_callsign (hmatch : ¬ s.CallsignMatches) : judgeFrame s = reject .callsignMismatch s := by
  have hfail : callsignMismatch s = true := by
    simpa using mt (callsignMismatch_eq_false s).mp hmatch
  rw [judgeFrame, if_pos hfail]

/-- Stage 2 fails (rule R178). -/
theorem judgeFrame_length (hmatch : s.CallsignMatches) (hlen : ¬ s.LengthFits) :
    judgeFrame s = reject .invalidLength s := by
  have hfail : structuralLengthBad s = true := by
    simpa using mt (structuralLengthBad_eq_false s).mp hlen
  rw [judgeFrame, (callsignMismatch_eq_false s).mpr hmatch, if_neg Bool.false_ne_true, if_pos hfail]

/-- Settles O24: stages 1 and 2 by their own tests, the two later clauses as FRAME rows. -/
theorem parseRejectsBeforeTheGate : Obligations.ParseRejectsBeforeTheGate := by
  intro s hen
  refine ⟨fun hmatch => ?callsign, fun hmatch hlen => ?length, fun f hreach hclass => ?invalid,
    fun f hreach hclass hlong => ?longPublic⟩
  case callsign => rw [exec_parse_enabled hen, judgeFrame_callsign hmatch]; rfl
  case length => rw [exec_parse_enabled hen, judgeFrame_length hmatch hlen]; rfl
  case invalid =>
    rw [parseRunsTheFrameClass s f hreach, decodeFid_eq_frameInvalid_iff.mpr hclass]
    exact frameInvalidCompletes s f
  case longPublic =>
    obtain ⟨hrow, -⟩ := frameRowsReject s f
    exact (exec_parse_public hreach hclass).trans (hrow hlong)

/-- Settles O25: PARSE is FRAME.PUBLIC here. -/
theorem parseCopiesPublicOptionalData : Obligations.ParseCopiesPublicOptionalData :=
  fun s f hreach hclass hfits => (exec_parse_public hreach hclass).trans (framePublicCompletes s f hfits)

/-- Settles O26: PARSE is FRAME.PRIVATE here. -/
theorem gateRejectsInOrder : Obligations.GateRejectsInOrder := by
  intro s f hreach hclass
  rw [exec_parse_private hreach hclass]
  exact (frameRowsReject s f).2

/-- Settles O27: PARSE is FRAME.PRIVATE here. -/
theorem gateDecryptsPrivateOptionalData : Obligations.GateDecryptsPrivateOptionalData :=
  fun s f hreach hclass hsec hle hroom hfits =>
    (exec_parse_private hreach hclass).trans (framePrivateCompletes s f hsec hle hroom hfits)

/-- A length that is at most some number is so as a 16-bit register too. -/
theorem toNat_ofNat_le {n m : Nat} (h : n ≤ m) : (BitVec.ofNat 16 n).toNat ≤ m := by
  rw [BitVec.toNat_ofNat]; exact (Nat.mod_le _ _).trans h

/-- Settles O33: OPTLEN is 0, or the clamp, which is below the length byte that exceeded it, or a length byte that
passed every test. -/
theorem gateBoundsOptlen : Obligations.GateBoundsOptlen := by
  intro s f hreach hclass hzero
  refine ⟨_, (exec_parse_private hreach hclass).trans (exec_framePrivate rfl), ?_⟩
  have hbyte := lengthByte_lt s
  obtain ⟨-, hgate⟩ | ⟨-, hclamp, hgate⟩ | ⟨-, -, -, hgate⟩ | ⟨-, -, -, -, hgate⟩ | ⟨-, hle, hroom, hfits, hgate⟩ :=
    gateStage_cases (setMode .encrypted (latchFid f s))
  all_goals rw [hgate]
  case inr.inl =>
    have hmax : s.cfg.maxN ≤ 255 := Nat.le_of_lt_succ (lt_trans hclamp hbyte)
    exact ⟨toNat_ofNat_le (le_min le_rfl hmax), nofun⟩
  case inr.inr.inr.inr =>
    have hlength : (BitVec.ofNat 16 s.lengthByte).toNat = s.lengthByte := by
      rw [BitVec.toNat_ofNat]; omega
    have hdata : (slice (s.decrypted (blocksFor s.lengthByte)) 1 (1 + s.lengthByte)).length =
        (BitVec.ofNat 16 s.lengthByte).toNat := by rw [length_optional, hlength]
    have hsection : s.lengthByte ≤ s.regionLength - 1 := Nat.le_sub_of_add_le' hroom
    exact ⟨toNat_ofNat_le (le_min hle (Nat.le_of_lt_succ hbyte)),
      fun _ => ⟨toNat_ofNat_le (le_min hsection hfits), hdata⟩⟩
  all_goals exact ⟨by simp [hzero], nofun⟩

/-! ## The last callsign byte -/

/-- Bytes stored before the start of a slice are not seen in it. -/
theorem slice_set_of_lt {buf : List Byte} {i a b : Nat} (x : Byte) (hi : i < a) :
    slice (buf.set i x) a b = slice buf a b := by
  rw [slice, slice, List.drop_set_of_lt hi]

theorem bufByte_set_of_ne {buf : List Byte} {i j : Nat} (x : Byte) (hne : i ≠ j) :
    bufByte (buf.set i x) j = bufByte buf j := by
  simp [bufByte, hne]

/-- The block with other bytes stored in RXBUF. -/
def withRxbuf (buf : List Byte) (s : State) : State := { s with rxbuf := buf }

/-- The gate reads RXBUF through its section alone (rule R214). -/
theorem decrypted_withRxbuf {buf : List Byte} (hregion : (withRxbuf buf s).region = s.region) (n : Nat) :
    (withRxbuf buf s).decrypted n = s.decrypted n :=
  congrArg (mapBlocks (aesDec s.cfg.cipher s.key) n) hregion

theorem plaintextStage_withRxbuf {buf : List Byte} (hregion : (withRxbuf buf s).region = s.region) :
    plaintextStage (withRxbuf buf s) = withRxbuf buf (plaintextStage s) := by
  simp only [plaintextStage, hregion, apply_ite (withRxbuf buf)]; rfl

theorem gateStage_withRxbuf {buf : List Byte} (hregion : (withRxbuf buf s).region = s.region) :
    gateStage (withRxbuf buf s) = withRxbuf buf (gateStage s) := by
  have hbyte : (withRxbuf buf s).lengthByte = s.lengthByte := by
    rw [State.lengthByte, decrypted_withRxbuf hregion, State.lengthByte]
  simp only [gateStage, hbyte, decrypted_withRxbuf hregion, apply_ite (withRxbuf buf)]; rfl

/-- Stages 3 and 4 see of RXBUF the region only, whatever the class. -/
theorem classifiedFrame_withRxbuf {buf : List Byte} (i : Instr) (hregion : (withRxbuf buf s).region = s.region) :
    classifiedFrame i (withRxbuf buf s) = withRxbuf buf (classifiedFrame i s) := by
  cases i with
  | framePublic f => exact plaintextStage_withRxbuf (s := setMode .plaintext (latchFid f s)) hregion
  | framePrivate f => exact gateStage_withRxbuf (s := setMode .encrypted (latchFid f s)) hregion
  | _ => rfl

/-- PARSE sees of RXBUF the compared bytes, the function id and the region only (rules R177 to R181). -/
theorem judgeFrame_withRxbuf {buf : List Byte}
    (hcompared : ∀ i < s.csLen - 1, bufByte buf i = bufByte s.rxbuf i)
    (hfid : bufByte buf s.csLen = s.fidByte) (hregion : (withRxbuf buf s).region = s.region) :
    judgeFrame (withRxbuf buf s) = withRxbuf buf (judgeFrame s) := by
  have hmatch : callsignMismatch (withRxbuf buf s) = callsignMismatch s := by
    rw [Bool.eq_iff_iff, ← not_iff_not, Bool.not_eq_true, Bool.not_eq_true, callsignMismatch_eq_false,
      callsignMismatch_eq_false]
    exact and_congr_right fun _ => forall₂_congr fun i hi =>
      (congrArg (· = bufByte s.callsign i) (hcompared i hi)).to_iff
  have hbyte : (withRxbuf buf s).fidByte = s.fidByte := hfid
  simp only [judgeFrame, hmatch, hbyte, classifiedFrame_withRxbuf _ hregion, apply_ite (withRxbuf buf)]; rfl

/-- Settles O32: with CSLEN legal the byte at CSLEN - 1 is none of the compared bytes and lies before the function id;
otherwise PARSE is refused either way. -/
theorem lastCallsignByteIsNotCompared : Obligations.LastCallsignByteIsNotCompared := by
  intro s t b hparse
  obtain ⟨hno, rfl⟩ | ⟨hheld, hnew, hillegal, rfl⟩ | ⟨hheld, hnew, hlegal, rfl⟩ := execParse_cases hparse
  · exact exec_parse_noFrame (s := withRxbuf _ s) hno
  · exact exec_parse_illegal_cslen (s := withRxbuf _ s) hheld hnew (csLegal_eq_false_iff.mp hillegal)
  · have hcs := csLegal_eq_true_iff.mp hlegal
    have hpos : 1 ≤ s.csLen := hcs.1
    have hjudge := judgeFrame_withRxbuf (s := s) (buf := s.rxbuf.set (s.cslen.toNat - 1) b)
      (fun i hi => bufByte_set_of_ne b (ne_of_gt hi)) (bufByte_set_of_ne b (Nat.sub_lt hpos one_pos).ne)
      (slice_set_of_lt b (show s.csLen - 1 < s.csLen + 1 by omega))
    have hparse' := exec_parse_enabled (s := withRxbuf (s.rxbuf.set (s.cslen.toNat - 1) b) s) ⟨hheld, hnew, hcs⟩
    rw [hjudge] at hparse'
    exact hparse'

/-! ## What every judged frame has in common -/

/-- The registers stages 3 and 4 may write before the frame is accepted or rejected (rules R179 to R181, R217, R219).
-/
structure Latches where
  fid : Byte
  fidvalid : Bool
  mode : GateState
  optlen : Half
  optdata : List Byte
  aescnt : Word

/-- The block with these registers stored. -/
def latch (l : Latches) (s : State) : State :=
  { s with
    fid := l.fid, fidvalid := l.fidvalid, mode := l.mode, optlen := l.optlen, optdata := l.optdata, aescnt := l.aescnt }

/-- These registers as a block holds them. -/
def State.latches (s : State) : Latches := ⟨s.fid, s.fidvalid, s.mode, s.optlen, s.optdata, s.aescnt⟩

/-- What PARSE leaves of a frame it judges: the frame is rejected, with OPTLEN as it was or clamped, or it is accepted
with its function id; MODE is written with FID only (rules R176, R180, R182, R217, R312). -/
inductive Judged (s : State) : State → Prop
  | rejected (e : FrameError) (l : Latches) (mode : l.mode = s.mode ∨ l.fidvalid = true)
      (optlen : l.optlen = s.optlen ∨ (e = .incorrectPassword ∧ l.optlen = BitVec.ofNat 16 s.cfg.maxN)) :
      Judged s (reject e (latch l s))
  | accepted (l : Latches) (fidvalid : l.fidvalid = true) : Judged s (accept (latch l s))

/-- A frame is rejected in a state that differs in the latches only. -/
theorem judged_reject {e : FrameError} (honly : u = latch u.latches s) (hmode : u.mode = s.mode ∨ u.fidvalid = true)
    (hoptlen : u.optlen = s.optlen ∨ (e = .incorrectPassword ∧ u.optlen = BitVec.ofNat 16 s.cfg.maxN)) :
    Judged s (reject e u) := by
  rw [honly]; exact .rejected e u.latches hmode hoptlen

/-- A frame is accepted in a state that differs in the latches only. -/
theorem judged_accept (honly : u = latch u.latches s) (hfid : u.fidvalid = true) : Judged s (accept u) := by
  rw [honly]; exact .accepted u.latches hfid

theorem judged_publicFrame (f : Byte) (s : State) : Judged s (publicFrame f s) := by
  obtain ⟨-, hstage⟩ | ⟨-, hstage⟩ := plaintextStage_cases (setMode .plaintext (latchFid f s)) <;>
    rw [publicFrame, hstage]
  · exact judged_reject rfl (.inr rfl) (.inl rfl)
  · exact judged_accept rfl rfl

theorem judged_privateFrame (f : Byte) (s : State) : Judged s (privateFrame f s) := by
  obtain ⟨-, hgate⟩ | ⟨-, -, hgate⟩ | ⟨-, -, -, hgate⟩ | ⟨-, -, -, -, hgate⟩ | ⟨-, -, -, -, hgate⟩ :=
    gateStage_cases (setMode .encrypted (latchFid f s))
  all_goals rw [privateFrame, hgate]
  · exact judged_reject rfl (.inr rfl) (.inl rfl)
  · exact judged_reject rfl (.inr rfl) (.inr ⟨rfl, rfl⟩)
  · exact judged_reject rfl (.inr rfl) (.inl rfl)
  · exact judged_reject rfl (.inr rfl) (.inl rfl)
  · exact judged_accept rfl rfl

theorem judged_invalidFrame (f : Byte) (s : State) : Judged s (invalidFrame f s) :=
  judged_reject rfl (.inr rfl) (.inl rfl)

/-- PARSE rejects or accepts every frame it judges (rule R176). -/
theorem judged_judgeFrame (s : State) : Judged s (judgeFrame s) := by
  obtain ⟨-, hjudge⟩ | ⟨-, -, hjudge⟩ | ⟨-, -, ⟨-, hjudge⟩ | ⟨-, -, hjudge⟩ | ⟨-, hjudge⟩⟩ := judgeFrame_cases s <;>
    rw [hjudge]
  · exact judged_reject rfl (.inl rfl) (.inl rfl)
  · exact judged_reject rfl (.inl rfl) (.inl rfl)
  · exact judged_publicFrame _ s
  · exact judged_privateFrame _ s
  · exact judged_invalidFrame _ s

/-- No frame error has the number 0 (rule R301). -/
theorem ferrCode_ne_zero (e : FrameError) : ferrCode e ≠ 0 := by cases e <;> decide

/-- Settles O34: the frame is held, parsed and rejected, so that ENCODE is silenced. -/
theorem rejectedFrameIsNeverEchoed : Obligations.RejectedFrameIsNeverEchoed := by
  intro s t hen hparse hbad
  rw [exec_parse_enabled hen] at hparse
  cases hparse
  have hjudged := judged_judgeFrame s
  generalize judgeFrame s = v at hjudged hbad ⊢
  cases hjudged with
  | accepted => cases hbad
  | rejected e l _ hoptlen =>
    obtain ⟨hheld, -, hcs⟩ := hen
    have hsilent : silenced (complete .none (reject e (latch l s))) = true :=
      silenced_eq_true_iff.mpr ⟨hheld, rfl, rfl⟩
    refine ⟨rfl, rfl, fun i => rfl, fun enc v hencode => ?encode, rfl, ferrCode_ne_zero e, ?optlen⟩
    case encode =>
      rw [exec_encode_silenced (s := complete .none (reject e (latch l s))) enc hcs hsilent] at hencode
      cases hencode
      exact ⟨rfl, rfl, rfl, rfl, rfl⟩
    case optlen =>
      obtain hkept | ⟨rfl, hclamped⟩ := hoptlen
      · exact .inl hkept
      · exact .inr ⟨rfl, hclamped⟩

end Sys2Proof.Machine
end

section
/-! PROOF. What one step can do (rules R78, R151, R355): the outcomes of a command, the turns of the agents, and what
the Engine's step does with every latched word. Later proofs split a step by these cases. -/

namespace Sys2Proof.Machine

variable {s t u : State} {i : Instr} {code : CmdError} {left : List AgentStep}

/-! ## The Engine's step -/

/-- Where the Engine is next and an instruction is latched, the step is that instruction (rule R151). -/
theorem step_engine_instr (hb : s.busy = true) (hnext : s.EngineNext left) (hdec : decodeWord s.cmdlatch = .instr i) :
    step s = exec i (s.withPending left) := by
  have hfetch : fetch (s.withPending left) = .instr i := hdec
  rw [step_engineTurn hnext, engineTurn, if_pos (by exact hb), engineComplete, hfetch]

/-- Where the Engine is next and an illegal word is latched, the step refuses it (rule R112). -/
theorem step_engine_illegal {e : DecodeError} (hb : s.busy = true) (hnext : s.EngineNext left)
    (hdec : decodeWord s.cmdlatch = .illegal e) : step s = .next (complete .illegalCmd (s.withPending left)) := by
  have hfetch : fetch (s.withPending left) = .illegal e := hdec
  rw [step_engineTurn hnext, engineTurn, if_pos (by exact hb), engineComplete, hfetch]; rfl

/-- Where the Engine is next and the block is idle, the step takes the turn off the schedule (rule R151). -/
theorem step_engine_idle (hb : s.busy = false) (hnext : s.EngineNext left) :
    step s = .next (s.withPending left) := by
  rw [step_engineTurn hnext, engineTurn, if_neg (by simpa using hb)]

/-- An empty schedule is what is left of itself. -/
theorem withPending_nil (hp : s.env.pending = []) : s.withPending [] = s := by
  rw [← hp, withPending_self]

/-! ## The outcomes of a command -/

/-- Everything a command can do before its completion sets the flags: it is refused with s as it was, or it leaves
what its rule says. -/
inductive Performed (s : State) : Instr → CmdError → State → Prop
  | refused (i : Instr) {code : CmdError} (hcode : code ≠ .none) : Performed s i code s
  | nop : Performed s .nop .none s
  | judged (hen : s.ParseEnabled) : Performed s .parse .none (judgeFrame s)
  | released (rej : Bool) (hheld : s.dataReceived = true) :
      Performed s (.release rej) .none (clearFrame (countFrame rej s))
  | measured (enc : Bool) (n : Nat) : Performed s (.framelen enc) .none { s with flen := BitVec.ofNat 16 n }
  | dropped (enc : Bool) {code : CmdError} (hcode : code ≠ .none) : Performed s (.encode enc) code (dropTx s)
  | written (enc : Bool) {n : Nat} (hcs : s.CslenLegal) (hheard : silenced s = false)
      (hkey : enc = true → s.keyen = true) (hlen : responseLength enc s = .ok n) :
      Performed s (.encode enc) .none (writeResponse enc n s)
  | cleared : Performed s .txclear .none (dropTx { s with txod := [], txodlen := 0 })
  | pushed {i : Instr} (n : Nat) (hi : i = .push8 ∨ i = .push16 ∨ i = .push32)
      (hfits : s.respLen + n ≤ s.cfg.maxOptDataLength) :
      Performed s i .none (dropTx { s with
        txod := s.txod.take s.respLen ++ lowBytes n s.operand
        txodlen := s.txodlen + BitVec.ofNat 16 n })

/-- The length function refuses with a code that is not 0 (rule R254). -/
theorem code_ne_none_of_responseLength {enc : Bool} (hlen : responseLength enc s = .error code) : code ≠ .none := by
  obtain ⟨-, h⟩ | ⟨-, -, h⟩ | ⟨-, -, -, h⟩ | ⟨-, -, -, -, h⟩ := responseLength_cases enc s <;> rw [h] at hlen <;>
    cases hlen <;> decide

theorem performed_push (n : Nat) (hi : i = .push8 ∨ i = .push16 ∨ i = .push32) :
    ∃ code u, push n s = complete code u ∧ Performed s i code u := by
  obtain ⟨-, hpush⟩ | ⟨hfits, hpush⟩ := push_cases n s
  · exact ⟨_, _, hpush, .refused i (by decide)⟩
  · exact ⟨_, _, hpush, .pushed n hi hfits⟩

theorem performed_encode {enc : Bool} (h : execEncode enc s = .next t) :
    ∃ code u, t = complete code u ∧ Performed s (.encode enc) code u := by
  obtain ⟨-, rfl⟩ | ⟨-, -, rfl⟩ | ⟨-, -, -, -, rfl⟩ | ⟨-, -, -, code, hlen, rfl⟩ |
    ⟨hlegal, hheard, hkey, n, hlen, rfl⟩ := execEncode_cases h
  · exact ⟨_, _, rfl, .dropped enc (by decide)⟩
  · exact ⟨_, _, rfl, .dropped enc (by decide)⟩
  · exact ⟨_, _, rfl, .dropped enc (by decide)⟩
  · exact ⟨_, _, rfl, .dropped enc (code_ne_none_of_responseLength hlen)⟩
  · exact ⟨_, _, rfl, .written enc (csLegal_eq_true_iff.mp hlegal) hheard hkey hlen⟩

/-- Every command ends in a completion of one of its outcomes (rule R151). -/
theorem performed_exec {w : Word} (hi : encode i = .word w) (h : exec i s = .next t) :
    ∃ code u, t = complete code u ∧ Performed s i code u := by
  cases i with
  | nop => cases h; exact ⟨_, _, rfl, .nop⟩
  | parse =>
    obtain ⟨-, rfl⟩ | ⟨-, -, -, rfl⟩ | ⟨hheld, hnew, hlegal, rfl⟩ := execParse_cases h
    · exact ⟨_, _, rfl, .refused _ (by decide)⟩
    · exact ⟨_, _, rfl, .refused _ (by decide)⟩
    · exact ⟨_, _, rfl, .judged ⟨hheld, hnew, csLegal_eq_true_iff.mp hlegal⟩⟩
  | release rej =>
    obtain ⟨-, rfl⟩ | ⟨hheld, rfl⟩ := execRelease_cases h
    · exact ⟨_, _, rfl, .refused _ (by decide)⟩
    · exact ⟨_, _, rfl, .released rej hheld⟩
  | framelen enc =>
    obtain ⟨code, hlen, rfl⟩ | ⟨n, -, rfl⟩ := execFramelen_cases h
    · exact ⟨_, _, rfl, .refused _ (code_ne_none_of_responseLength hlen)⟩
    · exact ⟨_, _, rfl, .measured enc n⟩
  | encode enc => exact performed_encode h
  | txclear => cases h; exact ⟨_, _, rfl, .cleared⟩
  | push8 => cases h; exact performed_push 1 (.inl rfl)
  | push16 => cases h; exact performed_push 2 (.inr (.inl rfl))
  | push32 => cases h; exact performed_push 4 (.inr (.inr rfl))
  | framePublic f | framePrivate f | frameInvalid f => cases hi

/-! ## Who writes the Host's registers -/

/-- The two states agree in the configuration, the Host's registers, CMDLATCH, HAZARD and the surroundings of the
block. -/
def SameHost (s t : State) : Prop :=
  t.cfg = s.cfg ∧ t.rxen = s.rxen ∧ t.keyen = s.keyen ∧ t.ieRx = s.ieRx ∧ t.ieDone = s.ieDone ∧
    t.cmdlatch = s.cmdlatch ∧ t.hazard = s.hazard ∧ t.operand = s.operand ∧ t.cslen = s.cslen ∧
    t.callsign = s.callsign ∧ t.key = s.key ∧ t.respid = s.respid ∧ t.env = s.env

theorem sameHost_refl (s : State) : SameHost s s := ⟨rfl, rfl, rfl, rfl, rfl, rfl, rfl, rfl, rfl, rfl, rfl, rfl, rfl⟩

/-- PARSE writes none of them (rule R175). -/
theorem Judged.sameHost (h : Judged s t) : SameHost s t := by
  cases h <;> exact sameHost_refl s

/-- No command writes any of them (rules R27, R114). -/
theorem Performed.sameHost (h : Performed s i code u) : SameHost s u := by
  cases h with
  | judged => exact (judged_judgeFrame s).sameHost
  | released rej => rw [countFrame_eq_evlog]; exact sameHost_refl s
  | _ => exact sameHost_refl s

/-- Settles O10: a command by its outcomes, a FRAME row by its judgement. -/
theorem instructionsWriteNoHostRegister : Obligations.InstructionsWriteNoHostRegister := by
  intro i s t h
  change SameHost s t
  cases hcode : encode i with
  | word w =>
    obtain ⟨code, u, rfl, hperf⟩ := performed_exec hcode h
    exact hperf.sameHost
  | fid f =>
    cases i with
    | framePublic f => cases h; exact (judged_publicFrame f s).sameHost
    | framePrivate f => cases h; exact (judged_privateFrame f s).sameHost
    | frameInvalid f => cases h; exact (judged_invalidFrame f s).sameHost
    | _ => cases hcode

/-! ## The Engine's obligations -/

/-- Settles O7: the Engine's step where nothing is planned and where its turn is. -/
theorem stepRunsTheLatchedInstruction : Obligations.StepRunsTheLatchedInstruction := by
  intro s i rest hb hdec
  refine ⟨fun hp => ?_, fun hp => step_engine_instr hb (.inr hp) hdec⟩
  rw [step_engine_instr hb (.inl ⟨hp, rfl⟩) hdec, withPending_nil hp]

/-- Settles O57: the same for a turn that is not enabled. -/
theorem engineRestsWhileIdle : Obligations.EngineRestsWhileIdle := by
  intro s hb
  refine ⟨fun hp => ?_, fun rest hp => step_engine_idle hb (.inr hp)⟩
  rw [step_engine_idle hb (.inl ⟨hp, rfl⟩), withPending_nil hp]

/-- Settles O5: the decoder's four causes, the issue of rule R150, and the Engine's refusal. -/
theorem illegalWordsAreTakenAndRefused : Obligations.IllegalWordsAreTakenAndRefused := by
  refine ⟨fun w => decodeWord_illegal_iff, fun s w rest hb hp => ?_, fun s left e hb hnext hdec => ?_⟩
  · exact (issueLatchesTheWord s w rest hp).1 hb
  · exact step_engine_illegal hb hnext hdec

/-- Every instruction has a next state: no arm of exec stops (rule R355). -/
theorem exec_next (i : Instr) (s : State) : ∃ t, exec i s = .next t := by
  cases i <;> exact ⟨_, rfl⟩

/-- The completion of a latched word: the completion step after an outcome that leaves the Host's registers (rule
R151). -/
theorem step_engine_completes (hb : s.busy = true) (hnext : s.EngineNext left) :
    ∃ code u, step s = .next (complete code u) ∧ SameHost (s.withPending left) u := by
  cases hdec : decodeWord s.cmdlatch with
  | instr i =>
    obtain ⟨t, ht⟩ := exec_next i (s.withPending left)
    obtain ⟨code, u, rfl, hperf⟩ := performed_exec (encode_of_decodeWord hdec) ht
    exact ⟨code, u, (step_engine_instr hb hnext hdec).trans ht, hperf.sameHost⟩
  | illegal e => exact ⟨_, _, step_engine_illegal hb hnext hdec, sameHost_refl _⟩

/-- Settles O9: what the completion step sets, and the interrupt enables that no command writes. -/
theorem everyLatchedWordIsCompleted : Obligations.EveryLatchedWordIsCompleted := by
  intro s left hb hnext
  obtain ⟨code, u, hstep, -, -, -, hieRx, hieDone, -, -, -, -, -, -, -, henv⟩ := step_engine_completes hb hnext
  have hcerr : (cerrCode code).toNat ≤ 6 := by cases code <;> decide
  refine ⟨_, hstep, congrArg Env.pending henv, rfl, rfl, hcerr, bne_iff_ne, ?_, ?_⟩
  · simpa [irqDone] using hieDone
  · simp [irqRx, hieRx]

/-! ## The turns of the agents -/

/-- The registers the Host writes, with BUSY, DONE and HAZARD (rules R141, R150, R350). -/
structure HostRegs where
  rxen : Bool
  keyen : Bool
  ieRx : Bool
  ieDone : Bool
  cmdlatch : Word
  busy : Bool
  done : Bool
  hazard : Bool
  operand : Word
  cslen : Byte
  callsign : List Byte
  key : Block
  respid : Byte

/-- The block with these registers stored. -/
def store (r : HostRegs) (s : State) : State :=
  { s with
    rxen := r.rxen, keyen := r.keyen, ieRx := r.ieRx, ieDone := r.ieDone, cmdlatch := r.cmdlatch, busy := r.busy,
    done := r.done, hazard := r.hazard, operand := r.operand, cslen := r.cslen, callsign := r.callsign, key := r.key,
    respid := r.respid }

/-- These registers as a block holds them. -/
def State.hostRegs (s : State) : HostRegs :=
  ⟨s.rxen, s.keyen, s.ieRx, s.ieDone, s.cmdlatch, s.busy, s.done, s.hazard, s.operand, s.cslen, s.callsign, s.key,
    s.respid⟩

/-- A write while BUSY = 0 stores registers of the Host; HAZARD and the length of CALLSIGN stay, and BUSY goes with
DONE = 0 (rule R141). -/
theorem idleWrite_eq_store (r : Reg) (v : Word) (hb : s.busy = false) :
    ∃ h : HostRegs, idleWrite r v s = store h s ∧ h.hazard = s.hazard ∧ h.callsign.length = s.callsign.length ∧
      (h.busy = true → h.done = false) := by
  refine ⟨(idleWrite r v s).hostRegs, ?_⟩
  obtain e | e | e | e | e | e | ⟨m, e⟩ | ⟨j, e⟩ := idleWrite_cases r v s <;> rw [e] <;>
    exact ⟨rfl, rfl, by simp [State.hostRegs], by simp [State.hostRegs, hb]⟩

/-- Everything one step can do, left being what is still planned after it (rule R78). -/
inductive Turn (s : State) (left : List AgentStep) : State → Prop
  | rests (hb : s.busy = false) : Turn s left (s.withPending left)
  | performed {i : Instr} {code : CmdError} {u : State} (hdoes : s.Performs i)
      (hperf : Performed (s.withPending left) i code u) : Turn s left (complete code u)
  | illegal : Turn s left (complete .illegalCmd (s.withPending left))
  | read (e : Env) : Turn s left { s with env := e }
  | hazard (hb : s.busy = true) {off : Half} {v : Word} (hp : s.env.pending = .regWrite off v :: left) :
      Turn s left { s.withPending left with hazard := true }
  | stored {h : HostRegs} (hhazard : h.hazard = s.hazard) (hcallsign : h.callsign.length = s.callsign.length)
      (hissue : h.busy = true → h.done = false) : Turn s left (store h (s.withPending left))
  | accepted {data : List Byte} (hp : s.env.pending = .deliver data :: left) (hrxen : s.rxen = true)
      (hfree : s.dataReceived = false) (hidle : s.busy = false) : Turn s left (emit (.rxAccepted (len16 data))
        { s.withPending left with rxbuf := data.take s.cfg.rxCap, rxlen := len16 data, dataReceived := true })
  | dropped (n : Half) : Turn s left (emit (.rxDropped n) (s.withPending left))
  | reset (hreset : s.Resets) (e : Env) : Turn s left (State.resetWith s.cfg e)

theorem turn_of_engineTurn (hnext : s.EngineNext left) (h : engineTurn (s.withPending left) = .next t) :
    Turn s left t := by
  obtain ⟨hb, rfl⟩ | ⟨hb, i, hfetch, hexec⟩ | ⟨hb, e, hfetch, rfl⟩ := engineTurn_cases h
  · exact .rests hb
  · obtain ⟨code, u, rfl, hperf⟩ := performed_exec (encode_of_decodeWord hfetch) hexec
    have hplanned : s.env.pending = [] ∨ ∃ rest, s.env.pending = .engine :: rest :=
      hnext.imp And.left fun hp => ⟨left, hp⟩
    exact .performed ⟨hb, hfetch, hplanned⟩ hperf
  · exact .illegal

/-- Every step is a turn of one agent (rules R78, R355). -/
theorem turn_of_step (h : step s = .next t) : ∃ left, Turn s left t := by
  obtain ⟨hp, hengine⟩ | ⟨a, rest, hp, hturn⟩ := step_cases h
  · exact ⟨[], turn_of_engineTurn (.inl ⟨hp, rfl⟩) (by rwa [withPending_nil hp])⟩
  refine ⟨rest, ?_⟩
  obtain ⟨rfl, hengine⟩ | ⟨off, rfl, -, rfl⟩ | ⟨off, v, rfl, -, rfl⟩ | ⟨data, rfl, rfl⟩ | ⟨rfl, rfl⟩ := hturn
  · exact turn_of_engineTurn (.inr hp) hengine
  · rw [regRead_only_env]; exact .read _
  · obtain ⟨hb, hwrite⟩ | ⟨hb, hwrite⟩ := regWrite_cases off v (s.withPending rest) <;> rw [hwrite]
    · exact .hazard hb hp
    · obtain ⟨r, hstore, hhazard, hcallsign, hissue⟩ :=
        idleWrite_eq_store (regAt (s.withPending rest).cfg off) v hb
      rw [hstore]
      exact .stored hhazard hcallsign hissue
  · obtain ⟨hrxen, hfree, hidle, hdeliver⟩ | ⟨-, hdeliver⟩ := deliver_cases data (s.withPending rest) <;> rw [hdeliver]
    · exact .accepted hp hrxen hfree hidle
    · exact .dropped _
  · exact .reset ⟨rest, hp⟩ _

/-- Settles O45: the reset turn, and what the reset state holds. -/
theorem resetDiscardsEverything : Obligations.ResetDiscardsEverything := by
  intro s rest hp
  refine ⟨_, by rw [step, hp]; rfl, rfl, rfl, rfl, rfl, key_resetWith _ _, ?_⟩
  exact (callsign_resetWith s.cfg _).2

/-- Settles O16: a write while BUSY = 1 is the one turn that sets HAZARD, and reset the one that clears it. -/
theorem hazardIsSticky : Obligations.HazardIsSticky := by
  intro s t h
  have hkeeps (hsame : t.hazard = s.hazard) : (s.hazard = true → t.hazard = true ∨ s.Resets) ∧
      (s.hazard = false → t.hazard = true →
        s.busy = true ∧ ∃ off v rest, s.env.pending = .regWrite off v :: rest) :=
    ⟨fun hset => .inl (hsame.trans hset), fun hclear hset => by simp [hsame, hclear] at hset⟩
  obtain ⟨left, turn⟩ := turn_of_step h
  cases turn with
  | performed _ hperf =>
    obtain ⟨-, -, -, -, -, -, hkept, -⟩ := hperf.sameHost
    exact hkeeps hkept
  | hazard hb hp => exact ⟨fun _ => .inl rfl, fun _ _ => ⟨hb, _, _, _, hp⟩⟩
  | stored hkept => exact hkeeps hkept
  | reset hreset => exact ⟨fun _ => .inr hreset, nofun⟩
  | _ => exact hkeeps rfl

end Sys2Proof.Machine
end

section
/-! PROOF. What a step may write (rules R44, R52, R82, R252, R256, R313): for each register, the outcomes of a command
that write it, and from them the turns that do. -/

namespace Sys2Proof.Machine

variable {s t u v w : State} {i : Instr} {code : CmdError} {left : List AgentStep}

/-! ## The configuration and the event log -/

/-- A command appends to EVLOG (rule R52). -/
theorem Performed.evlog (h : Performed s i code u) : ∃ l, u.evlog = s.evlog ++ l := by
  cases h with
  | judged =>
    have hjudged := judged_judgeFrame s
    generalize judgeFrame s = v at hjudged ⊢
    cases hjudged with
    | rejected e => exact ⟨[.frameInvalid (ferrCode e)], rfl⟩
    | accepted => exact ⟨[], (List.append_nil _).symm⟩
  | released rej =>
    obtain ⟨-, hcount⟩ | ⟨-, -, -, hcount⟩ | ⟨-, -, hcount⟩ := countFrame_cases rej s <;> rw [hcount]
    · exact ⟨[], (List.append_nil _).symm⟩
    · exact ⟨[.frameValid], rfl⟩
    · exact ⟨[.frameInvalid s.reasonCode], rfl⟩
  | _ => exact ⟨[], (List.append_nil _).symm⟩

/-- Settles O40: the turns one by one; a command by what it appends. -/
theorem configurationFixedAndLogAppendOnly : Obligations.ConfigurationFixedAndLogAppendOnly := by
  intro s t h
  obtain ⟨left, turn⟩ := turn_of_step h
  cases turn with
  | performed _ hperf =>
    obtain ⟨hcfg, -⟩ := hperf.sameHost
    exact ⟨hcfg, .inl hperf.evlog⟩
  | accepted | dropped => exact ⟨rfl, .inl ⟨[_], rfl⟩⟩
  | reset hreset => exact ⟨rfl, .inr ⟨hreset, rfl⟩⟩
  | _ => exact ⟨rfl, .inl ⟨[], (List.append_nil _).symm⟩⟩

/-! ## The four buffers -/

/-- Of the commands, RELEASE alone writes RXBUF. -/
theorem Performed.rxbuf (h : Performed s i code u) (hne : u.rxbuf ≠ s.rxbuf) : ∃ rej, i = .release rej := by
  cases h with
  | judged =>
    have hjudged := judged_judgeFrame s
    generalize judgeFrame s = v at hjudged hne
    cases hjudged <;> exact absurd rfl hne
  | released rej => exact ⟨rej, rfl⟩
  | _ => exact absurd rfl hne

/-- PARSE and RELEASE alone write OPTDATA. -/
theorem Performed.optdata (h : Performed s i code u) (hne : u.optdata ≠ s.optdata) :
    i = .parse ∨ ∃ rej, i = .release rej := by
  cases h with
  | judged => exact .inl rfl
  | released rej => exact .inr ⟨rej, rfl⟩
  | _ => exact absurd rfl hne

/-- The stages of PARSE leave the encoder's registers (rule R175). -/
theorem judgeFrame_encoder (s : State) :
    (judgeFrame s).txod = s.txod ∧ (judgeFrame s).txbuf = s.txbuf ∧ (judgeFrame s).txlen = s.txlen ∧
      (judgeFrame s).txvalid = s.txvalid := by
  have hjudged := judged_judgeFrame s
  generalize judgeFrame s = v at hjudged ⊢
  cases hjudged <;> exact ⟨rfl, rfl, rfl, rfl⟩

/-- TXCLEAR and PUSH alone write TXOD. -/
theorem Performed.txod (h : Performed s i code u) (hne : u.txod ≠ s.txod) :
    i = .txclear ∨ i = .push8 ∨ i = .push16 ∨ i = .push32 := by
  cases h with
  | judged => exact absurd (judgeFrame_encoder s).1 hne
  | released rej => rw [countFrame_eq_evlog] at hne; exact absurd rfl hne
  | cleared => exact .inl rfl
  | pushed _ hi => exact .inr hi
  | _ => exact absurd rfl hne

/-! ## The transmit frame -/

/-- No code but that of success is 0 (rule R310). -/
theorem cmderr_complete (code : CmdError) (s : State) : (complete code s).cmderr = true ↔ code ≠ .none := by
  rw [complete_cmderr]; cases code <;> decide

/-- What a command does to the transmit frame (rules R248, R256, R257): it keeps it, ENCODE builds it, or it is
emptied by TXCLEAR, by a PUSH that is not refused or by an ENCODE that is. -/
theorem Performed.transmitFrame (h : Performed s i code u) :
    (u.txvalid = s.txvalid ∧ u.txbuf = s.txbuf ∧ u.txlen = s.txlen) ∨
    (u.txvalid = true ∧ code = .none ∧ silenced s = false ∧ ∃ enc, i = .encode enc) ∨
    (u.txvalid = false ∧ u.txbuf = [] ∧ u.txlen = 0 ∧
      (i = .txclear ∨ (code = .none ∧ (i = .push8 ∨ i = .push16 ∨ i = .push32)) ∨
        (code ≠ .none ∧ ∃ enc, i = .encode enc))) := by
  cases h with
  | judged =>
    obtain ⟨-, hbuf, hlen, hvalid⟩ := judgeFrame_encoder s
    exact .inl ⟨hvalid, hbuf, hlen⟩
  | released rej => rw [countFrame_eq_evlog]; exact .inl ⟨rfl, rfl, rfl⟩
  | written enc _ hheard => exact .inr (.inl ⟨rfl, rfl, hheard, enc, rfl⟩)
  | dropped enc hcode => exact .inr (.inr ⟨rfl, rfl, rfl, .inr (.inr ⟨hcode, enc, rfl⟩)⟩)
  | cleared => exact .inr (.inr ⟨rfl, rfl, rfl, .inl rfl⟩)
  | pushed _ hi => exact .inr (.inr ⟨rfl, rfl, rfl, .inr (.inl ⟨rfl, hi⟩)⟩)
  | _ => exact .inl ⟨rfl, rfl, rfl⟩

/-- Settles O41: a command by the lemma of each buffer, an accepted delivery for RXBUF, and reset for all. -/
theorem buffersHaveOneOwner : Obligations.BuffersHaveOneOwner := by
  intro s t h
  obtain ⟨left, turn⟩ := turn_of_step h
  cases turn with
  | @performed i code u hdoes hperf =>
    refine ⟨fun hne => ?rxbuf, fun hne => ?optdata, fun hne => ?txod, fun hne => ?txbuf⟩
    case rxbuf =>
      obtain ⟨rej, rfl⟩ := hperf.rxbuf hne
      exact .inr (.inl ⟨rej, hdoes⟩)
    case optdata =>
      obtain rfl | ⟨rej, rfl⟩ := hperf.optdata hne
      · exact .inr (.inl hdoes)
      · exact .inr (.inr ⟨rej, hdoes⟩)
    case txod =>
      obtain rfl | rfl | rfl | rfl := hperf.txod hne
      all_goals simp [hdoes]
    case txbuf =>
      obtain ⟨-, hsame, -⟩ | ⟨-, -, -, enc, rfl⟩ | ⟨-, -, -, rfl | ⟨-, rfl | rfl | rfl⟩ | ⟨-, enc, rfl⟩⟩ :=
        hperf.transmitFrame
      · exact absurd hsame hne
      · exact .inr (.inr (.inr (.inr (.inr ⟨enc, hdoes⟩))))
      · exact .inr (.inl hdoes)
      · exact .inr (.inr (.inl hdoes))
      · exact .inr (.inr (.inr (.inl hdoes)))
      · exact .inr (.inr (.inr (.inr (.inl hdoes))))
      · exact .inr (.inr (.inr (.inr (.inr ⟨enc, hdoes⟩))))
  | accepted hp _ hfree hidle =>
    exact ⟨fun _ => .inr (.inr ⟨hfree, hidle, _, _, hp⟩), fun hne => absurd rfl hne, fun hne => absurd rfl hne,
      fun hne => absurd rfl hne⟩
  | reset hreset => exact ⟨fun _ => .inl hreset, fun _ => .inl hreset, fun _ => .inl hreset, fun _ => .inl hreset⟩
  | _ =>
    exact ⟨fun hne => absurd rfl hne, fun hne => absurd rfl hne, fun hne => absurd rfl hne, fun hne => absurd rfl hne⟩

/-- Settles O58: the turns one by one; a command by what it does to the transmit frame. -/
theorem transmitFrameStaysUntilCleared : Obligations.TransmitFrameStaysUntilCleared := by
  intro s t hvalid h
  obtain ⟨left, turn⟩ := turn_of_step h
  cases turn with
  | @performed i code u hdoes hperf =>
    obtain ⟨hkept, hbuf, hlen⟩ | ⟨hbuilt, rfl, -, enc, rfl⟩ | ⟨hgone, hbuf, hlen, hwhy⟩ := hperf.transmitFrame
    · exact .inl ⟨hkept.trans hvalid, hbuf, hlen⟩
    · exact .inr (.inl ⟨hbuilt, rfl, enc, hdoes⟩)
    · refine .inr (.inr ⟨hgone, hbuf, hlen, .inr ?_⟩)
      obtain rfl | ⟨rfl, hi⟩ | ⟨hcode, enc, rfl⟩ := hwhy
      · exact .inl hdoes
      · refine .inr (.inl ⟨rfl, ?_⟩)
        obtain rfl | rfl | rfl := hi <;> simp [hdoes]
      · exact .inr (.inr ⟨(cmderr_complete code u).mpr hcode, enc, hdoes⟩)
  | reset hreset => exact .inr (.inr ⟨rfl, rfl, rfl, .inl hreset⟩)
  | _ => exact .inl ⟨hvalid, rfl, rfl⟩

/-! ## The AES counter -/

/-- A number of data bytes that fits a section of whole blocks within MAXN needs at most MAX_NUM_OF_BLOCKS blocks. -/
theorem blocksFor_le_max {cfg : Cfg} {n e : Nat} (hwhole : e % 16 = 0) (hfits : 1 + n ≤ e) (hmax : e ≤ cfg.maxN) :
    blocksFor n ≤ cfg.maxNumOfBlocks := by
  have hblocks := blocksFor_le hwhole hfits
  have hmaxN : cfg.maxN = 16 * cfg.maxNumOfBlocks := rfl
  omega

/-- The gate invokes AES with a key only, on at most MAX_NUM_OF_BLOCKS blocks (rules R212, R219). -/
theorem gateStage_aescnt (s : State) :
    (gateStage s).aescnt = s.aescnt ∨
      (s.keyen = true ∧ ∃ n ≤ s.cfg.maxNumOfBlocks, (gateStage s).aescnt = s.aescnt + BitVec.ofNat 32 n) := by
  obtain ⟨-, hone, -⟩ := cfg_bounds s.cfg
  obtain ⟨-, hgate⟩ | ⟨hsec, -, hgate⟩ | ⟨hsec, -, -, hgate⟩ | ⟨hsec, -, -, -, hgate⟩ | ⟨hsec, hle, hroom, -, hgate⟩ :=
    gateStage_cases s
  all_goals rw [hgate]
  · exact .inl rfl
  · exact .inr ⟨hsec.1, 1, hone, rfl⟩
  · exact .inr ⟨hsec.1, 1, hone, rfl⟩
  · exact .inr ⟨hsec.1, 1, hone, rfl⟩
  · obtain ⟨hkey, -, hwhole, hmax⟩ := hsec
    exact .inr ⟨hkey, _, blocksFor_le_max hwhole hroom hmax, rfl⟩

/-- The gate leaves the function id and the gate state that stage 3 selected (rule R210). -/
theorem gateStage_classified (s : State) : (gateStage s).fid = s.fid ∧ (gateStage s).mode = s.mode := by
  obtain ⟨-, hgate⟩ | ⟨-, -, hgate⟩ | ⟨-, -, -, hgate⟩ | ⟨-, -, -, -, hgate⟩ | ⟨-, -, -, -, hgate⟩ := gateStage_cases s
  all_goals rw [hgate]; exact ⟨rfl, rfl⟩

/-- PARSE invokes AES for the encrypted class alone (rules R44, R210, R212). -/
theorem judgeFrame_aescnt (hne : (judgeFrame s).aescnt ≠ s.aescnt) :
    (∃ n ≤ s.cfg.maxNumOfBlocks, (judgeFrame s).aescnt = s.aescnt + BitVec.ofNat 32 n) ∧ s.keyen = true ∧
      (judgeFrame s).mode = .encrypted ∧ PrivateFid s.cfg (judgeFrame s).fid := by
  obtain ⟨-, hjudge⟩ | ⟨-, -, hjudge⟩ | ⟨-, -, ⟨-, hjudge⟩ | ⟨hlow, hhigh, hjudge⟩ | ⟨-, hjudge⟩⟩ := judgeFrame_cases s
  all_goals rw [hjudge] at hne ⊢
  · exact absurd rfl hne
  · exact absurd rfl hne
  · obtain ⟨-, hstage⟩ | ⟨-, hstage⟩ := plaintextStage_cases (setMode .plaintext (latchFid s.fidByte s)) <;>
      rw [publicFrame, hstage] at hne <;> exact absurd rfl hne
  · obtain ⟨hfid, hmode⟩ := gateStage_classified (setMode .encrypted (latchFid s.fidByte s))
    obtain hsame | ⟨hkey, hblocks⟩ := gateStage_aescnt (setMode .encrypted (latchFid s.fidByte s))
    · exact absurd hsame hne
    · exact ⟨hblocks, hkey, hmode, by rw [privateFrame, hfid]; exact ⟨hlow, hhigh⟩⟩
  · exact absurd rfl hne

/-- Of the commands, PARSE of the encrypted class and ENCODE.ENC invoke AES, with a key only (rules R44, R253, R255).
-/
theorem Performed.aescnt (h : Performed s i code u) (hne : u.aescnt ≠ s.aescnt) :
    (∃ n ≤ s.cfg.maxNumOfBlocks, u.aescnt = s.aescnt + BitVec.ofNat 32 n) ∧ s.keyen = true ∧
      ((i = .parse ∧ u.mode = .encrypted ∧ PrivateFid s.cfg u.fid) ∨ i = .encode true) := by
  cases h with
  | judged =>
    obtain ⟨hblocks, hkey, hmode, hfid⟩ := judgeFrame_aescnt hne
    exact ⟨hblocks, hkey, .inl ⟨rfl, hmode, hfid⟩⟩
  | released rej => rw [countFrame_eq_evlog] at hne; exact absurd rfl hne
  | written enc _ _ hkey hlen =>
    obtain ⟨-, -, -, hwhole⟩ := cfg_caps s.cfg
    obtain ⟨-, h⟩ | ⟨-, rfl, -⟩ | ⟨-, -, -, h⟩ | ⟨-, rfl, -, hfits, -⟩ := responseLength_cases enc s
    · rw [h] at hlen; cases hlen
    · exact absurd (BitVec.add_zero s.aescnt) hne
    · rw [h] at hlen; cases hlen
    · exact ⟨⟨_, blocksFor_le_max hwhole hfits le_rfl, rfl⟩, hkey rfl, .inr rfl⟩
  | _ => exact absurd rfl hne

/-- Settles O42: a command by the lemma above; of the other turns reset alone writes AESCNT. -/
theorem aesIsInvokedOnlyForEncryptedFrames : Obligations.AesIsInvokedOnlyForEncryptedFrames := by
  intro s t h hne
  obtain ⟨left, turn⟩ := turn_of_step h
  cases turn with
  | performed hdoes hperf =>
    obtain ⟨hblocks, hkey, hwhy⟩ := hperf.aescnt hne
    refine .inr ⟨hblocks, hkey, ?_⟩
    obtain ⟨rfl, hmode, hfid⟩ | rfl := hwhy
    · exact .inl ⟨hdoes, hmode, hfid⟩
    · exact .inr hdoes
  | reset hreset => exact .inl hreset
  | _ => exact absurd rfl hne

/-! ## Silence -/

/-- What no command but RELEASE undoes while the block is silenced (rules R252, R313): it stays silenced, and neither a
transmit frame nor optional data becomes valid. -/
theorem Performed.silence (h : Performed s i code u) (hsilent : silenced s = true) :
    (u.txvalid = true → s.txvalid = true) ∧ (u.optvalid = true → s.optvalid = true) ∧
      (silenced u = true ∨ ∃ rej, i = .release rej) := by
  cases h with
  | judged hen =>
    obtain ⟨-, hparsed, -⟩ := silenced_eq_true_iff.mp hsilent
    exact absurd (hen.2.1.symm.trans hparsed) (by decide)
  | released rej => rw [countFrame_eq_evlog]; exact ⟨id, nofun, .inr ⟨rej, rfl⟩⟩
  | written enc _ hheard => exact absurd (hheard.symm.trans hsilent) (by decide)
  | dropped | cleared | pushed => exact ⟨nofun, id, .inl hsilent⟩
  | _ => exact ⟨id, id, .inl hsilent⟩

/-- The same for a whole step, which a reset ends too. -/
theorem silence_of_step (hsilent : silenced s = true) (h : step s = .next t) :
    (t.txvalid = true → s.txvalid = true) ∧ (t.optvalid = true → s.optvalid = true) ∧
      (silenced t = true ∨ s.Resets ∨ ∃ rej, s.Performs (.release rej)) := by
  obtain ⟨left, turn⟩ := turn_of_step h
  cases turn with
  | performed hdoes hperf =>
    obtain ⟨htx, hopt, hstill | ⟨rej, rfl⟩⟩ := hperf.silence (s := s.withPending left) hsilent
    · exact ⟨htx, hopt, .inl hstill⟩
    · exact ⟨htx, hopt, .inr (.inr ⟨rej, hdoes⟩)⟩
  | accepted _ _ hfree =>
    obtain ⟨hheld, -⟩ := silenced_eq_true_iff.mp hsilent
    exact absurd (hfree.symm.trans hheld) (by decide)
  | reset hreset => exact ⟨nofun, nofun, .inr (.inl hreset)⟩
  | _ => exact ⟨id, id, .inl hsilent⟩

/-- Settles O43: the step lemma of silence in the words of the claim. -/
theorem silenceHoldsUntilRelease : Obligations.SilenceHoldsUntilRelease := by
  intro s t hheld hparsed hbad h
  obtain ⟨htx, -, hend⟩ := silence_of_step (silenced_eq_true_iff.mpr ⟨hheld, hparsed, hbad⟩) h
  exact ⟨htx, hend.imp_left silenced_eq_true_iff.mp⟩

/-- Silence over a run without RELEASE and reset: the block stays silenced, and what was not valid stays so. -/
theorem silence_of_beforeRelease (hrun : BeforeRelease s t) (hsilent : silenced s = true) :
    silenced t = true ∧ (t.txvalid = true → s.txvalid = true) ∧ (t.optvalid = true → s.optvalid = true) := by
  induction hrun with
  | refl => exact ⟨hsilent, id, id⟩
  | step _ hstep hreset hrelease ih =>
    obtain ⟨hs, htx, hopt⟩ := ih
    obtain ⟨htx', hopt', hstill | hends | ⟨rej, hends⟩⟩ := silence_of_step hs hstep
    · exact ⟨hstill, htx ∘ htx', hopt ∘ hopt'⟩
    · exact absurd hends hreset
    · exact absurd hends (hrelease rej)

/-- A PARSE that rejects silences the block, shows no optional data and leaves the transmit frame (rules R175, R312).
-/
theorem silenced_of_parse (hen : s.ParseEnabled) (hparse : exec .parse s = .next t) (hbad : t.parseOk = false) :
    silenced t = true ∧ t.optvalid = false ∧ t.txvalid = s.txvalid := by
  rw [exec_parse_enabled hen] at hparse
  cases hparse
  have hjudged := judged_judgeFrame s
  generalize judgeFrame s = v at hjudged hbad ⊢
  cases hjudged with
  | accepted => cases hbad
  | rejected e l => exact ⟨silenced_eq_true_iff.mpr ⟨hen.1, rfl, rfl⟩, rfl, rfl⟩

/-- An ENCODE performed while the block is silenced is refused, empties the transmit frame, and leaves the block
silenced (rule R257). -/
theorem step_encode_silenced {enc : Bool} (hsilent : silenced s = true) (hdoes : s.Performs (.encode enc))
    (h : step s = .next t) :
    (s.CslenLegal → t.cerr = 0x06) ∧ t.cmderr = true ∧ t.txvalid = false ∧ t.txbuf = [] ∧ t.txlen = 0 ∧
      silenced t = true := by
  obtain ⟨hb, hdec, hnext⟩ := hdoes
  obtain ⟨left, hleft⟩ : ∃ left, s.EngineNext left := by
    obtain hp | ⟨rest, hp⟩ := hnext
    · exact ⟨[], .inl ⟨hp, rfl⟩⟩
    · exact ⟨rest, .inr hp⟩
  rw [step_engine_instr hb hleft hdec] at h
  by_cases hcs : s.CslenLegal
  · rw [exec_encode_silenced (s := s.withPending left) enc hcs hsilent] at h
    cases h
    exact ⟨fun _ => rfl, rfl, rfl, rfl, rfl, hsilent⟩
  · rw [exec_encode_illegal_cslen (s := s.withPending left) enc hcs] at h
    cases h
    exact ⟨fun hlegal => absurd hlegal hcs, rfl, rfl, rfl, rfl, hsilent⟩

/-- Settles O59: the silence of the rejecting PARSE over the run to u, and that of the refused ENCODE over the run to
w. -/
theorem noTransmitFrameFromRejectionToRelease : Obligations.NoTransmitFrameFromRejectionToRelease := by
  intro s t u hen hparse hbad hrun
  obtain ⟨hsilent, hopt, htx⟩ := silenced_of_parse hen hparse hbad
  obtain ⟨hsilentU, htxU, hoptU⟩ := silence_of_beforeRelease hrun hsilent
  obtain ⟨-, -, hbadU⟩ := silenced_eq_true_iff.mp hsilentU
  refine ⟨hsilentU, hbadU, ?_, fun hnone => ?_, fun enc v w hdoes hstep hrunW => ?_⟩
  · simpa [hopt] using hoptU
  · simpa [htx, hnone] using htxU
  · obtain ⟨hcerr, hcmderr, htxV, hbuf, hlen, hsilentV⟩ := step_encode_silenced hsilentU hdoes hstep
    obtain ⟨hsilentW, htxW, -⟩ := silence_of_beforeRelease hrunW hsilentV
    exact ⟨hcerr, hcmderr, hbuf, hlen, hsilentW, by simpa [htxV] using htxW⟩

end Sys2Proof.Machine
end

section
/-! PROOF. The counting automaton of rule R190: how each event moves it, and what its verdict on a log says of the
stretch between two accepted frames. -/

namespace Sys2Proof.Machine

variable {log : List Event} {p q : CountPhase}

/-! ## One more event -/

/-- The automaton started in a phase. -/
def countFrom (p : Option CountPhase) (log : List Event) : Option CountPhase :=
  log.foldl (fun p e => p.bind fun q => countStep q e) p

theorem countLog_eq_countFrom (log : List Event) : countLog log = countFrom (some .none) log := rfl

theorem countFrom_cons (p : CountPhase) (e : Event) (log : List Event) :
    countFrom (some p) (e :: log) = countFrom (countStep p e) log := rfl

/-- A log that has failed stays failed. -/
theorem countFrom_none (log : List Event) : countFrom none log = none := by
  induction log with
  | nil => rfl
  | cons e log ih => exact ih

theorem countLog_snoc (log : List Event) (e : Event) :
    countLog (log ++ [e]) = (countLog log).bind fun q => countStep q e := by
  simp [countLog]

/-- A counter event counts the frame that was owed one. -/
theorem countLog_counts {e : Event} (howed : countLog log = some .uncounted) (he : e.counts = true) :
    countLog (log ++ [e]) = some .counted := by
  rw [countLog_snoc, howed]
  cases e with
  | rxAccepted | rxDropped => cases he
  | frameInvalid | frameValid => rfl

/-- A frame accepted while none is owed a count is owed one. -/
theorem countLog_accepts (n : Half) (hok : countLog log ≠ none) (hnone : countLog log ≠ some .uncounted) :
    countLog (log ++ [.rxAccepted n]) = some .uncounted := by
  rw [countLog_snoc]
  obtain ⟨p, hp⟩ := Option.ne_none_iff_exists'.mp hok
  cases p with
  | uncounted => exact absurd hp hnone
  | none | counted => rw [hp]; rfl

/-- A dropped frame is not counted. -/
theorem countLog_drops (n : Half) : countLog (log ++ [.rxDropped n]) = countLog log := by
  rw [countLog_snoc]
  cases hp : countLog log with
  | none => rfl
  | some p => cases p <;> rfl

/-! ## A stretch between two accepted frames -/

/-- The number of counter events the last accepted frame has had. -/
def CountPhase.counts : CountPhase → Nat
  | .none => 0
  | .uncounted => 0
  | .counted => 1

/-- Once a frame was accepted, the counter events up to the next one are what the phase has gained. -/
theorem counts_of_countFrom {mid : List Event} (hp : p ≠ .none) (hmid : ∀ e ∈ mid, ∀ n, e ≠ .rxAccepted n)
    (hcount : countFrom (some p) mid = some q) :
    q ≠ .none ∧ q.counts = p.counts + (mid.filter Event.counts).length := by
  induction mid generalizing p with
  | nil => cases hcount; exact ⟨hp, rfl⟩
  | cons e mid ih =>
    obtain ⟨he, hrest⟩ := List.forall_mem_cons.mp hmid
    rw [countFrom_cons] at hcount
    cases e with
    | rxAccepted n => exact absurd rfl (he n)
    | rxDropped n => cases p <;> exact ih hp hrest hcount
    | frameInvalid | frameValid =>
      cases p with
      | uncounted =>
        obtain ⟨hq, hsum⟩ := ih (p := .counted) (by decide) hrest hcount
        rw [List.filter_cons_of_pos rfl, List.length_cons, hsum]
        exact ⟨hq, by simp [CountPhase.counts, Nat.add_comm]⟩
      | none | counted => simp [countStep, countFrom_none] at hcount

/-- A prefix of a log that passes has passed. -/
theorem countFrom_append {r : CountPhase} {first second : List Event}
    (hcount : countFrom (some p) (first ++ second) = some r) :
    ∃ q, countFrom (some p) first = some q ∧ countFrom (some q) second = some r := by
  have hsplit : countFrom (some p) (first ++ second) = countFrom (countFrom (some p) first) second :=
    List.foldl_append
  rw [hsplit] at hcount
  cases hfirst : countFrom (some p) first with
  | none => rw [hfirst, countFrom_none] at hcount; cases hcount
  | some q => exact ⟨q, rfl, hfirst ▸ hcount⟩

/-- The phase in which a stretch without an accepted frame ends tells how many counter events it holds. -/
theorem stretch_of_countLog {before mid after : List Event} {len : Half} (hcount : countLog log = some p)
    (hlog : log = before ++ .rxAccepted len :: (mid ++ after)) (hmid : ∀ e ∈ mid, ∀ n, e ≠ .rxAccepted n) :
    ∃ q, q ≠ .none ∧ (mid.filter Event.counts).length = q.counts ∧ countFrom (some q) after = some p := by
  rw [hlog, countLog_eq_countFrom] at hcount
  obtain ⟨r, -, hcount⟩ := countFrom_append hcount
  have hstart : countFrom (some .uncounted) (mid ++ after) = some p := by
    cases r with
    | uncounted => rw [countFrom_cons, countStep, countFrom_none] at hcount; cases hcount
    | none | counted => exact hcount
  obtain ⟨q, hstretch, hafter⟩ := countFrom_append hstart
  obtain ⟨hq, hsum⟩ := counts_of_countFrom (by decide) hmid hstretch
  exact ⟨q, hq, (hsum.trans (Nat.zero_add _)).symm, hafter⟩

/-- Settles O36: the stretch has ended uncounted or counted, and the next accepted frame, or the end of the log, tells
which. -/
theorem countedLogHasOneEventPerFrame : Obligations.CountedLogHasOneEventPerFrame := by
  intro log before mid after len p hcount hlog hmid
  obtain ⟨q, hq, hlen, hafter⟩ := stretch_of_countLog hcount hlog hmid
  rw [hlen]
  refine ⟨by cases q <;> decide, ?next, ?last⟩
  case next =>
    rintro ⟨n, tail, rfl⟩
    cases q with
    | none => exact absurd rfl hq
    | uncounted => rw [countFrom_cons, countStep, countFrom_none] at hafter; cases hafter
    | counted => rfl
  case last =>
    rintro rfl
    obtain rfl : q = p := Option.some.inj hafter
    cases q with
    | none => exact absurd rfl hq
    | uncounted | counted => simp [CountPhase.counts]

end Sys2Proof.Machine
end

section
/-! PROOF. The invariants of rule R53 with the canonical form of the buffers: every operation keeps them, so every
step does and every reachable state has them. -/

namespace Sys2Proof.Machine

variable {s t u : State}

/-! ## The parts of a safe state -/

/-- The canonical form of the buffers says clauses (i) to (k) of rule R53, but for the least length of a transmit
frame. -/
theorem safe_of_memory_wf (hflags : s.FlagInv) (hframe : s.NoFrameNoTrace) (htx : s.txvalid = true → 2 ≤ s.txlen.toNat)
    (hcount : s.CountedOnce) (hwf : Memory.wf s = true) (hunparsed : s.UnparsedClear) : s.Safe := by
  obtain ⟨-, -, hopt, -, ⟨htxod, htxodCap⟩, htxbuf, hnotx⟩ := (memory_wf_iff s).mp hwf
  have hoptdata : s.OptdataExact := fun hv => ⟨(hopt hv).1 ▸ (hopt hv).2, (hopt hv).1⟩
  have htxbufExact : s.TxbufExact :=
    ⟨fun hv => ⟨htx hv, (htxbuf hv).1 ▸ (htxbuf hv).2, (htxbuf hv).1⟩, fun hv => (hnotx hv).symm⟩
  exact ⟨⟨hflags, hframe, hoptdata, ⟨htxod ▸ htxodCap, htxod⟩, htxbufExact, hcount⟩, hwf, hunparsed⟩

/-- A log whose last accepted frame is counted owes none, whoever holds it. -/
theorem countedOnce_of_counted (hlog : countLog s.evlog = some .counted)
    (hheld : s.dataReceived = true → s.counted = true) : s.CountedOnce := by
  refine ⟨by rw [hlog]; decide, fun howed => ?_, fun ⟨hframe, hnew⟩ => ?_⟩
  · rw [hlog] at howed; cases howed
  · exact absurd ((hheld hframe).symm.trans hnew) (by decide)

/-- A valid transmit frame of a safe state has at least two bytes. -/
theorem two_le_txlen (h : s.Safe) (hv : s.txvalid = true) : 2 ≤ s.txlen.toNat := by
  obtain ⟨⟨-, -, -, -, ⟨htx, -⟩, -⟩, -⟩ := h
  exact (htx hv).1

/-! ## The operations keep them -/

/-- The completion step (rule R151): clauses (a) and (b) are what it writes. -/
theorem safe_complete (code : CmdError) (h : s.Safe) : (complete code s).Safe := by
  obtain ⟨⟨⟨-, -, hflags⟩, hdata⟩, hwf, hunparsed⟩ := h
  exact ⟨⟨⟨nofun, bne_iff_ne, hflags⟩, hdata⟩, hwf, hunparsed⟩

/-- The stages of PARSE with a frame to judge: a rejection counts the frame, an acceptance leaves it uncounted. -/
theorem safe_judgeFrame (h : s.Safe) (hheld : s.dataReceived = true) (hnew : s.parsed = false) :
    (judgeFrame s).Safe := by
  have hwf := memory_wf_judgeFrame h.2.1
  have htx := two_le_txlen h
  have hjudged := judged_judgeFrame s
  obtain ⟨⟨⟨hdone, hcmderr, -⟩, -, -, -, -, hcount⟩, -, hunparsed⟩ := h
  obtain ⟨⟨-, -, hcounted, hmode, -⟩, -⟩ := hunparsed hnew
  generalize judgeFrame s = v at hwf hjudged ⊢
  cases hjudged with
  | rejected e l hlmode hoptlen =>
    have hencrypted : l.mode = .encrypted → l.fidvalid = true := fun henc =>
      hlmode.resolve_left fun hsame => by simp [hsame, hmode] at henc
    have hlog : countLog (reject e (latch l s)).evlog = some .counted :=
      countLog_counts (hcount.2.mpr ⟨hheld, hcounted⟩) rfl
    refine safe_of_memory_wf ⟨hdone, hcmderr, fun _ => hheld, nofun, ?_, fun _ => ⟨rfl, rfl⟩, hencrypted, nofun⟩
      (fun hno => ?_) htx ?_ hwf nofun
    · exact fun _ _ => ⟨rfl, ferrCode_ne_zero e, rfl, rfl⟩
    · exact absurd (hheld.symm.trans hno) (by decide)
    · exact countedOnce_of_counted hlog fun _ => rfl
  | accepted l hfid =>
    have hnotCounted : (accept (latch l s)).counted = false := hcounted
    refine safe_of_memory_wf ⟨hdone, hcmderr, fun _ => hheld, fun _ => ⟨rfl, hfid, rfl, rfl, hnotCounted⟩, nofun, ?_,
      fun _ => hfid, fun _ => rfl⟩ (fun hno => ?_) htx hcount hwf nofun
    · exact fun hc => absurd (hnotCounted.symm.trans hc) (by decide)
    · exact absurd (hheld.symm.trans hno) (by decide)

/-- After RELEASE has counted the frame, none is owed a count (rule R190). -/
theorem countLog_countFrame (rej : Bool) (h : s.CountedOnce) (hheld : s.dataReceived = true) :
    countLog (countFrame rej s).evlog ≠ none ∧ countLog (countFrame rej s).evlog ≠ some .uncounted := by
  obtain ⟨hok, howed⟩ := h
  obtain ⟨hcounted, hc⟩ | ⟨hnew, -, -, hc⟩ | ⟨hnew, -, hc⟩ := countFrame_cases rej s <;> rw [hc]
  · exact ⟨hok, fun hlog => by simp [(howed.mp hlog).2] at hcounted⟩
  · rw [emit_evlog, countLog_counts (howed.mpr ⟨hheld, hnew⟩) rfl]; decide
  · rw [emit_evlog, countLog_counts (howed.mpr ⟨hheld, hnew⟩) rfl]; decide

/-- RELEASE clears every trace of a frame that it has counted (rules R188 to R191). -/
theorem safe_release (rej : Bool) (h : s.Safe) (hheld : s.dataReceived = true) :
    (clearFrame (countFrame rej s)).Safe := by
  have htx := two_le_txlen h
  obtain ⟨⟨⟨hdone, hcmderr, -⟩, -, -, -, -, hcount⟩, hwf, -⟩ := h
  obtain ⟨hok, hnone⟩ := countLog_countFrame rej hcount hheld
  have hwf' := memory_wf_clearFrame (s := countFrame rej s) (by rwa [memory_wf_countFrame])
  rw [countFrame_eq_evlog] at hok hnone hwf' ⊢
  refine safe_of_memory_wf ⟨hdone, hcmderr, nofun, nofun, nofun, nofun, nofun, nofun⟩
    (fun _ => ⟨rfl, ⟨rfl, rfl, rfl, rfl, rfl, rfl, rfl⟩, rfl, rfl, rfl, rfl⟩) htx
    ⟨hok, fun hlog => absurd hlog hnone, nofun⟩ hwf' (fun _ => ⟨⟨rfl, rfl, rfl, rfl, rfl, rfl, rfl⟩, rfl, rfl, rfl⟩)

/-- An operation that writes the encoder's registers alone keeps the invariants where it keeps the canonical form and
leaves no valid frame of less than two bytes. -/
theorem safe_of_encoder {txod txbuf : List Byte} {txodlen flen txlen : Half} {txvalid : Bool} {aescnt : Word}
    (h : s.Safe) (hwf : Memory.wf { s with
      txod := txod, txodlen := txodlen, flen := flen, txbuf := txbuf, txlen := txlen, txvalid := txvalid,
      aescnt := aescnt } = true) (htx : txvalid = true → 2 ≤ txlen.toNat) :
    { s with
      txod := txod, txodlen := txodlen, flen := flen, txbuf := txbuf, txlen := txlen, txvalid := txvalid,
      aescnt := aescnt }.Safe := by
  obtain ⟨⟨hflags, hframe, -, -, -, hcount⟩, -, hunparsed⟩ := h
  exact safe_of_memory_wf hflags hframe htx hcount hwf hunparsed

/-- The frame ENCODE writes has a callsign byte and the response id, so at least two bytes (rule R53 (k)). -/
theorem two_le_txlen_writeResponse {enc : Bool} {n : Nat} (hwf : Memory.wf s = true) (hcs : s.CslenLegal)
    (hlen : responseLength enc s = .ok n) : 2 ≤ (writeResponse enc n s).txlen.toNat := by
  obtain ⟨hcallsign, -⟩ := (memory_wf_iff s).mp hwf
  obtain ⟨-, -, -, -, -, htx, -⟩ := (memory_wf_iff _).mp (memory_wf_writeResponse hwf hlen)
  have hheader : s.responseHeader.length = s.cslen.toNat + 1 := by
    simp [State.responseHeader, State.csLen, hcallsign, hcs.2]
  rw [← (htx rfl).1]
  change 2 ≤ (s.responseHeader ++ s.responseBody enc).length
  rw [List.length_append, hheader]
  omega

/-- TXCLEAR empties the response with the transmit frame (rule R244). -/
theorem memory_wf_txclear (h : Memory.wf s = true) : Memory.wf (dropTx { s with txod := [], txodlen := 0 }) = true := by
  rw [memory_wf_iff] at h ⊢
  obtain ⟨hcallsign, hrxbuf, hopt, hnoopt, -⟩ := h
  exact ⟨hcallsign, hrxbuf, hopt, hnoopt, by simp, by simp, by simp⟩

/-- Every outcome of a command keeps the invariants. -/
theorem Performed.safe {i : Instr} {code : CmdError} (hperf : Performed s i code u) (h : s.Safe) : u.Safe := by
  have hwf := h.2.1
  cases hperf with
  | refused | nop => exact h
  | judged hen => exact safe_judgeFrame h hen.1 hen.2.1
  | released rej hheld => exact safe_release rej h hheld
  | measured => exact h
  | dropped => exact safe_of_encoder h (memory_wf_dropTx hwf) nofun
  | written enc hcs _ _ hlen =>
    exact safe_of_encoder h (memory_wf_writeResponse hwf hlen) fun _ => two_le_txlen_writeResponse hwf hcs hlen
  | cleared => exact safe_of_encoder (s := s) h (memory_wf_txclear hwf) nofun
  | pushed n _ hfits =>
    have hcap := cfg_caps s.cfg
    have hbound := cfg_bounds s.cfg
    have hpush := memory_wf_push n (by omega) hwf
    obtain ⟨hover, -⟩ | ⟨-, hp⟩ := push_cases n s
    · omega
    · rw [hp, memory_wf_complete] at hpush
      exact safe_of_encoder (s := s) h hpush nofun

/-- A frame accepted at an open port leaves the results of PARSE clear and is owed its count (rules R171, R190). -/
theorem safe_accepted {data : List Byte} (h : s.Safe) (hrxen : s.rxen = true) (hfree : s.dataReceived = false)
    (hidle : s.busy = false) :
    (emit (.rxAccepted (len16 data))
      { s with rxbuf := data.take s.cfg.rxCap, rxlen := len16 data, dataReceived := true }).Safe := by
  have htx := two_le_txlen h
  obtain ⟨⟨⟨hdone, hcmderr, -, hflags⟩, hframe, -, -, -, hok, howed⟩, hwf, hunparsed⟩ := h
  obtain ⟨-, ⟨-, -, hcounted, -⟩, -⟩ := hframe hfree
  have hlog := countLog_accepts (len16 data) hok fun hlast => by simp [(howed.mp hlast).1] at hfree
  have hwf' := memory_wf_deliver data hwf
  rw [deliver_open data hrxen hfree hidle] at hwf'
  refine safe_of_memory_wf ⟨hdone, hcmderr, fun _ => rfl, hflags⟩ nofun htx ⟨?_, ?_⟩ hwf' hunparsed
  · rw [emit_evlog, hlog]; decide
  · exact ⟨fun _ => ⟨rfl, hcounted⟩, fun _ => hlog⟩

/-- A dropped frame leaves a trace in EVLOG alone, and is owed no count (rules R172, R190). -/
theorem safe_dropped (n : Half) (h : s.Safe) : (emit (.rxDropped n) s).Safe := by
  obtain ⟨⟨hflags, hframe, hoptdata, htxod, htxbuf, hcount⟩, hwf, hunparsed⟩ := h
  refine ⟨⟨hflags, hframe, hoptdata, htxod, htxbuf, ?_⟩, hwf, hunparsed⟩
  unfold State.CountedOnce
  rw [emit_evlog, countLog_drops]
  exact hcount

/-- The Host's writes keep CALLSIGN's length and set BUSY only with DONE = 0 (rules R141, R150). -/
theorem safe_store {r : HostRegs} (h : s.Safe) (hcallsign : r.callsign.length = s.callsign.length)
    (hissue : r.busy = true → r.done = false) : (store r s).Safe := by
  obtain ⟨⟨⟨-, hflags⟩, hdata⟩, hwf, hunparsed⟩ := h
  refine ⟨⟨⟨hissue, hflags⟩, hdata⟩, ?_, hunparsed⟩
  rw [memory_wf_iff] at hwf ⊢
  exact ⟨hcallsign.trans hwf.1, hwf.2⟩

/-- Settles O38: the table of rule R340 meets the invariants, and its buffers are canonical. -/
theorem resetIsSafe : Obligations.ResetIsSafe :=
  fun cfg env => ⟨inv_resetWith cfg env, memory_wf_resetWith cfg env,
    fun _ => ⟨⟨rfl, rfl, rfl, rfl, rfl, rfl, rfl⟩, rfl, rfl, rfl⟩⟩

/-- Settles O37: by the turns of the agents, each of them an operation that keeps the invariants. -/
theorem stepKeepsSafe : Obligations.StepKeepsSafe := by
  intro s t h hstep
  obtain ⟨left, turn⟩ := turn_of_step hstep
  have hleft : (s.withPending left).Safe := h
  cases turn with
  | rests | read | hazard => exact h
  | performed _ hperf => exact safe_complete _ (hperf.safe hleft)
  | illegal => exact safe_complete _ hleft
  | stored _ hcallsign hissue => exact safe_store hleft hcallsign hissue
  | accepted _ hrxen hfree hidle => exact safe_accepted hleft hrxen hfree hidle
  | dropped n => exact safe_dropped n hleft
  | reset _ e => exact resetIsSafe s.cfg e

/-- Every reachable state is safe (rule R53). -/
theorem safe_of_reachable (h : Reachable s) : s.Safe := by
  induction h with
  | reset cfg env => exact resetIsSafe cfg env
  | step s t _ hstep ih => exact stepKeepsSafe s t ih hstep

/-- Settles O39: rule R53 (l) is what the accepted log of a safe state says, and a last frame that is no longer held is
owed no count. -/
theorem reachableStatesKeepTheInvariants : Obligations.ReachableStatesKeepTheInvariants := by
  intro s hreach
  have hinv := (safe_of_reachable hreach).1
  refine ⟨hinv, fun before mid after len hlog hmid => ?_⟩
  obtain ⟨-, -, -, -, -, hok, howed⟩ := hinv
  obtain ⟨p, hp⟩ := Option.ne_none_iff_exists'.mp hok
  obtain ⟨hatMost, hnext, hlast⟩ := countedLogHasOneEventPerFrame _ before mid after len p hp hlog hmid
  refine ⟨hatMost, ?_⟩
  rintro (hmore | ⟨rfl, hfree⟩)
  · exact hnext hmore
  · obtain ⟨q, hq, -, hqp⟩ := stretch_of_countLog hp hlog hmid
    obtain rfl : q = p := Option.some.inj hqp
    refine (hlast rfl).mpr ?_
    cases q with
    | none => exact absurd rfl hq
    | uncounted => simp [(howed.mp hp).1] at hfree
    | counted => rfl

end Sys2Proof.Machine
end

section
/-! PROOF. What ENCODE writes and how two PUSH commands add up (rules R74, R248, R250, R255, R256). -/

namespace Sys2Proof.Machine

variable {s t u : State} {enc : Bool} {n : Nat}

/-! ## PUSH -/

/-- Every bit of a byte of a word (rule R72). -/
theorem getLsbD_wordByte (v : Word) (j k : Nat) :
    (wordByte v j).getLsbD k = (decide (k < 8) && v.getLsbD (8 * j + k)) :=
  BitVec.getLsbD_extractLsb' ..

/-- The two halves of a word, each as the operand of a PUSH16, hold the word's bytes in the order of PUSH32 (rules R72,
R74). -/
theorem lowBytes_append (hi lo : Half) :
    lowBytes 2 (lo.setWidth 32) ++ lowBytes 2 (hi.setWidth 32) = lowBytes 4 (hi ++ lo : Word) := by
  have hbit (k : Nat) : (hi ++ lo : Word).getLsbD k = if k < 16 then lo.getLsbD k else hi.getLsbD (k - 16) :=
    BitVec.getLsbD_append
  have hlow (j : Nat) (hj : j < 2) : wordByte (lo.setWidth 32) j = wordByte (hi ++ lo : Word) j := by
    refine BitVec.eq_of_getLsbD_eq fun k hk => ?_
    have hin : 8 * j + k < 16 := by omega
    have hin32 : 8 * j + k < 32 := by omega
    rw [getLsbD_wordByte, getLsbD_wordByte, hbit, if_pos hin, BitVec.getLsbD_setWidth]
    simp [hin32]
  have hhigh (j : Nat) (hj : j < 2) : wordByte (hi.setWidth 32) j = wordByte (hi ++ lo : Word) (2 + j) := by
    refine BitVec.eq_of_getLsbD_eq fun k hk => ?_
    have hout : ¬ 8 * (2 + j) + k < 16 := by omega
    have hshift : 8 * (2 + j) + k - 16 = 8 * j + k := by omega
    have hin32 : 8 * j + k < 32 := by omega
    rw [getLsbD_wordByte, getLsbD_wordByte, hbit, if_neg hout, hshift, BitVec.getLsbD_setWidth]
    simp [hin32]
  have hbytes : [wordByte (lo.setWidth 32) 0, wordByte (lo.setWidth 32) 1, wordByte (hi.setWidth 32) 0,
      wordByte (hi.setWidth 32) 1] = lowBytes 4 (hi ++ lo : Word) := by
    rw [hlow 0 (by decide), hlow 1 (by decide), hhigh 0 (by decide), hhigh 1 (by decide)]; rfl
  exact hbytes

/-- The block after a PUSH of the n low bytes of v, which the Host has written to OPERAND. -/
def pushedWith (n : Nat) (v : Word) (s : State) : State :=
  { s.completed with
    operand := v, txod := s.txod ++ lowBytes n v, txodlen := s.txodlen + BitVec.ofNat 16 n
    txvalid := false, txbuf := [], txlen := 0 }

/-- A PUSH that fits, of an operand just written (rule R248). -/
theorem push_operand {v : Word} (hexact : s.txod.length = s.txodlen.toNat)
    (hfits : s.txodlen.toNat + n ≤ s.cfg.maxOptDataLength) : push n { s with operand := v } = pushedWith n v s :=
  push_fits (s := { s with operand := v }) hexact hfits

/-- Settles O48: the first PUSH16 leaves TXOD exact with room for the second, and the bytes of the two are those of the
word. -/
theorem twoPush16EqualOnePush32 : Obligations.TwoPush16EqualOnePush32 := by
  intro s a b c lo hi hexact hroom ha hb hc
  have hbound := cfg_bounds s.cfg
  have hcap := cfg_caps s.cfg
  have hlen : (s.txodlen + BitVec.ofNat 16 2).toNat = s.txodlen.toNat + 2 := by
    rw [BitVec.toNat_add, BitVec.toNat_ofNat]; omega
  have hfirst : pushedWith 2 (lo.setWidth 32) s = a :=
    (push_operand hexact (by omega)).symm.trans (Host.Outcome.next.inj ha)
  subst hfirst
  have hexact2 : (pushedWith 2 (lo.setWidth 32) s).txod.length = (pushedWith 2 (lo.setWidth 32) s).txodlen.toNat := by
    change (s.txod ++ lowBytes 2 _).length = (s.txodlen + BitVec.ofNat 16 2).toNat
    rw [List.length_append, length_lowBytes, hexact, hlen]
  have hroom2 : (pushedWith 2 (lo.setWidth 32) s).txodlen.toNat + 2 ≤ s.cfg.maxOptDataLength := by
    change (s.txodlen + BitVec.ofNat 16 2).toNat + 2 ≤ _
    omega
  have hsecond : pushedWith 2 (hi.setWidth 32) (pushedWith 2 (lo.setWidth 32) s) = b :=
    (push_operand hexact2 hroom2).symm.trans (Host.Outcome.next.inj hb)
  have hword : pushedWith 4 (hi ++ lo : Word) s = c := (push_operand hexact hroom).symm.trans (Host.Outcome.next.inj hc)
  have hcount : s.txodlen + BitVec.ofNat 16 2 + BitVec.ofNat 16 2 = s.txodlen + BitVec.ofNat 16 4 :=
    BitVec.add_assoc _ _ _
  rw [← hsecond, ← hword]
  simp only [pushedWith, State.completed, List.append_assoc, lowBytes_append, hcount]

/-! ## ENCODE -/

/-- ENCODE where no test refuses it (rule R250). -/
theorem exec_encode_ok (hcs : s.CslenLegal) (hheard : ¬ silenced s = true) (hkey : enc = true → s.keyen = true)
    (hlen : responseLength enc s = .ok n) : exec (.encode enc) s = .next (complete .none (writeResponse enc n s)) := by
  obtain ⟨hillegal, -⟩ | ⟨-, hsilent, -⟩ | ⟨-, -, henc, hnokey, -⟩ | ⟨-, -, -, code, herror, -⟩ |
      ⟨-, -, -, m, hok, ht⟩ := execEncode_cases (s := s) (enc := enc) rfl
  · exact absurd hcs (csLegal_eq_false_iff.mp hillegal)
  · exact absurd hsilent hheard
  · simp [hkey henc] at hnokey
  · rw [hlen] at herror; cases herror
  · rw [hlen] at hok; cases hok
    exact congrArg _ ht

/-- An ENCODE that is not refused has passed every test, and the length function has answered (rules R250, R257). -/
theorem written_of_exec_encode (h : exec (.encode enc) s = .next u) (hok : u.cmderr = false) :
    s.CslenLegal ∧ (enc = true → s.keyen = true) ∧
      ∃ n, responseLength enc s = .ok n ∧ u = complete .none (writeResponse enc n s) := by
  obtain ⟨code, v, rfl, hperf⟩ := performed_encode h
  have hnone : code = .none := by
    by_contra hcode
    exact absurd (hok.symm.trans ((cmderr_complete code v).mpr hcode)) (by decide)
  cases hperf with
  | refused _ hcode | dropped _ hcode => exact absurd hnone hcode
  | written _ hcs _ hkey hlen => exact ⟨hcs, hkey, _, hlen, rfl⟩
  | pushed _ hi => simp at hi

/-- Settles O50: the plain frame, for which AES is not invoked. -/
theorem encodeWritesThePlainFrame : Obligations.EncodeWritesThePlainFrame := by
  intro s hcs hheard
  rw [← silenced_eq_true_iff] at hheard
  have haes : s.aescnt + BitVec.ofNat 32 0 = s.aescnt := BitVec.add_zero _
  rw [exec_encode_ok hcs hheard (fun henc => absurd henc Bool.false_ne_true) (responseLength_plain hcs)]
  simp only [writeResponse, countAes, Bool.false_eq_true, if_false, haes]
  rfl

/-- Settles O51: the encrypted frame, its section being nb blocks of the padded plaintext. -/
theorem encodeWritesTheEncryptedFrame : Obligations.EncodeWritesTheEncryptedFrame := by
  intro s nb hcs hheard hkey hbyte hblocks hnb
  rw [← silenced_eq_true_iff] at hheard
  obtain rfl : nb = blocksFor s.txodlen.toNat := hnb.trans (blocksFor_eq _).symm
  rw [exec_encode_ok hcs hheard (fun _ => hkey) (responseLength_encrypted hcs hbyte hblocks),
    ← (blocksFor_spec s.txodlen.toNat).1]
  rfl

/-- Settles O53: FRAMELEN asks the same length function, and the bytes written are that many in a canonical state. -/
theorem framelenIsTheLengthEncodeWrites : Obligations.FramelenIsTheLengthEncodeWrites := by
  intro s t u enc hwf hframelen hencode hok
  obtain ⟨-, -, n, hlen, rfl⟩ := written_of_exec_encode hencode hok
  obtain ⟨-, -, -, -, -, htx, -⟩ := (memory_wf_iff _).mp (memory_wf_writeResponse hwf hlen)
  rw [exec_framelen_ok hlen] at hframelen
  cases hframelen
  exact ⟨rfl, rfl, (htx rfl).1⟩

end Sys2Proof.Machine
end

section
/-! PROOF. The round trips (rules R223, R258): a frame of callsign, function id and section, delivered to an open
block with that callsign, reaches stage 3 with the section as its region; and a parsed plaintext frame is what ENCODE
writes again. -/

namespace Sys2Proof.Machine

variable {s t r u : State} {f : Byte} {frame body : List Byte} {n : Nat}

/-! ## A delivered frame -/

/-- The block with a whole frame accepted (rule R171). -/
def holding (frame : List Byte) (r : State) : State :=
  emit (.rxAccepted (len16 frame))
    { r with rxbuf := frame, rxlen := BitVec.ofNat 16 frame.length, dataReceived := true }

/-- An open block stores a frame of at most RX_CAP bytes whole (rule R171). -/
theorem deliver_eq_holding (hrxen : r.rxen = true) (hfree : r.dataReceived = false) (hidle : r.busy = false)
    (hcap : frame.length ≤ r.cfg.rxCap) : deliver frame r = holding frame r := by
  have hbound := cfg_bounds r.cfg
  have hlen : len16 frame = BitVec.ofNat 16 frame.length := by rw [len16, min_eq_left (by omega)]
  rw [deliver_open frame hrxen hfree hidle, holding, List.take_of_length_le hcap, hlen]

/-- The header of a frame is as long as CSLEN and the function id (rule R100). -/
theorem length_header (hcall : r.cslen.toNat ≤ r.callsign.length) (f : Byte) :
    (r.callsign.take r.cslen.toNat ++ [f]).length = r.cslen.toNat + 1 := by
  simp [hcall]

/-- A held frame of the block's own callsign, a function id and a section passes stages 1 and 2, and its region is the
section (rules R100, R177, R178). -/
theorem reachesFid_holding (hnew : r.parsed = false) (hcs : r.CslenLegal)
    (hcall : r.callsign.length = r.cfg.maxCallsignLen)
    (hframe : frame = r.callsign.take r.cslen.toNat ++ [f] ++ body) (hcap : frame.length ≤ r.cfg.rxCap) :
    (holding frame r).ReachesFid f ∧ (holding frame r).regionLength = body.length ∧
      (holding frame r).region = body := by
  have hbound := cfg_bounds r.cfg
  have hle : r.cslen.toNat ≤ r.callsign.length := hcall ▸ hcs.2
  have hheader := length_header hle f
  have hlength : frame.length = r.cslen.toNat + 1 + body.length := by rw [hframe, List.length_append, hheader]
  have hrxlen : (holding frame r).rxlen.toNat = frame.length := by
    change (BitVec.ofNat 16 frame.length).toNat = _
    rw [BitVec.toNat_ofNat]; omega
  have hbytes : ∀ i < r.cslen.toNat - 1, bufByte frame i = bufByte r.callsign i := by
    intro i hi
    have hin : i < r.cslen.toNat := by omega
    have hin' : i < r.callsign.length := by omega
    simp [hframe, bufByte, List.getElem?_append, hin, hin', hle]
  have hfid : f = bufByte frame r.cslen.toNat := by
    simp [hframe, bufByte, hle]
  have hregionLength : (holding frame r).regionLength = body.length := by
    rw [State.regionLength, hrxlen]
    change frame.length - r.cslen.toNat - 1 = _
    omega
  refine ⟨⟨⟨rfl, hnew, hcs⟩, ⟨?_, hbytes⟩, ⟨?_, ?_⟩, hfid⟩, hregionLength, ?_⟩
  · rw [hrxlen]; change r.cslen.toNat - 1 ≤ _; omega
  · rw [hrxlen]; change r.cslen.toNat + 1 ≤ _; omega
  · rw [hrxlen]; exact hcap
  · rw [region_eq, hregionLength]
    change (frame.drop (r.cslen.toNat + 1)).take body.length = body
    rw [hframe, ← hheader, List.drop_left, List.take_length]

/-- What ENCODE has written fits every receive buffer of the configuration (rules R7, R256). -/
theorem length_txbuf_le {enc : Bool} (hwf : Memory.wf s = true) (hlen : responseLength enc s = .ok n) :
    (s.responseHeader ++ s.responseBody enc).length ≤ s.cfg.rxCap := by
  obtain ⟨-, -, -, -, -, htx, -⟩ := (memory_wf_iff _).mp (memory_wf_writeResponse hwf hlen)
  exact (htx rfl).2

/-- The canonical form of the response: TXOD is all of the optional data, and fits OPTDATA too. -/
theorem txod_of_memory_wf (hwf : Memory.wf s = true) :
    s.txod.take s.respLen = s.txod ∧ s.txod.length = s.respLen ∧ s.respLen ≤ s.cfg.maxOptDataLength := by
  obtain ⟨-, -, -, -, ⟨hlen, hcap⟩, -⟩ := (memory_wf_iff s).mp hwf
  exact ⟨List.take_of_length_le hlen.le, hlen, hlen.symm.trans_le hcap⟩

/-- The two blocks of a round trip (rules R223, R258): r is open and idle, and has the configuration and callsign of
s. -/
structure OpenPeer (s r : State) : Prop where
  cfg : r.cfg = s.cfg
  cslen : r.cslen = s.cslen
  callsign : r.callsign = s.callsign
  rxen : r.rxen = true
  free : r.dataReceived = false
  idle : r.busy = false
  unparsed : r.parsed = false

/-- The frame that ENCODE has written, delivered to the peer, reaches stage 3 there with what ENCODE put after the
header as its region. -/
theorem deliver_to_peer {enc : Bool} (hpeer : OpenPeer s r) (hwf : Memory.wf s = true) (hcs : s.CslenLegal)
    (hlen : responseLength enc s = .ok n) :
    ∃ d, deliver (complete .none (writeResponse enc n s)).txbuf r = d ∧ d.ReachesFid s.respid ∧
      d.regionLength = (s.responseBody enc).length ∧ d.region = s.responseBody enc ∧
      d.cfg = s.cfg ∧ d.key = r.key ∧ d.keyen = r.keyen ∧ d.aescnt = r.aescnt := by
  obtain ⟨hcfg, hcslen, hcallsign, hrxen, hfree, hidle, hnew⟩ := hpeer
  obtain ⟨hcall, -⟩ := (memory_wf_iff s).mp hwf
  have hcap : (s.responseHeader ++ s.responseBody enc).length ≤ r.cfg.rxCap := hcfg ▸ length_txbuf_le hwf hlen
  have hframe : s.responseHeader ++ s.responseBody enc =
      r.callsign.take r.cslen.toNat ++ [s.respid] ++ s.responseBody enc := by rw [hcallsign, hcslen]; rfl
  have hcs' : r.CslenLegal := by rw [State.CslenLegal, hcslen, hcfg]; exact hcs
  obtain ⟨hreach, hlength, hregion⟩ :=
    reachesFid_holding hnew hcs' (by rw [hcallsign, hcfg, hcall]) hframe hcap
  exact ⟨_, deliver_eq_holding hrxen hfree hidle hcap, hreach, hlength, hregion, hcfg, rfl, rfl, rfl⟩

/-! ## The plain round trip -/

/-- Settles O54: stage 4P of the peer copies the region, which is TXOD. -/
theorem plainRoundTrip : Obligations.PlainRoundTrip := by
  intro s t r hwf hencode hok hclass hcfg hcslen hcallsign hrxen hfree hidle hnew
  obtain ⟨hcs, -, n, hlen, rfl⟩ := written_of_exec_encode hencode hok
  obtain ⟨hwhole, htxod, hfits⟩ := txod_of_memory_wf hwf
  obtain ⟨d, hdeliver, hreach, hlength, hregion, hcfgD, -, -, haesD⟩ :=
    deliver_to_peer ⟨hcfg, hcslen, hcallsign, hrxen, hfree, hidle, hnew⟩ hwf hcs hlen
  have hbody : s.responseBody false = s.txod := hwhole
  rw [hbody] at hlength hregion
  have hparse := parseCopiesPublicOptionalData d s.respid hreach (hcfgD ▸ hclass)
    (by rw [hlength, htxod, hcfgD]; exact hfits)
  rw [hdeliver]
  refine ⟨_, hparse, rfl, rfl, rfl, rfl, ?_, ?_, haesD, BitVec.add_zero _⟩
  · change BitVec.ofNat 16 d.regionLength = s.txodlen
    rw [hlength, htxod]
    exact (BitVec.ofNat_toNat _ _).trans (BitVec.setWidth_eq _)
  · exact (region_eq d).symm.trans hregion

/-! ## The encrypted round trip -/

/-- What the length function has checked before ENCODE.ENC writes a frame (rule R254). -/
theorem bounds_of_responseLength (hlen : responseLength true s = .ok n) :
    s.respLen ≤ 255 ∧ 1 + s.respLen ≤ s.cfg.maxN := by
  obtain ⟨-, h⟩ | ⟨-, h, -⟩ | ⟨-, -, -, h⟩ | ⟨-, -, hbyte, hblocks, -⟩ := responseLength_cases true s
  · rw [h] at hlen; cases hlen
  · cases h
  · rw [h] at hlen; cases hlen
  · exact ⟨hbyte, hblocks⟩

/-- A block with the same cipher and key decrypts the first blocks of the encrypted section to the plaintext's (rules
R101, R255). -/
theorem decrypted_encryptedSection {d : State} {k : Nat} (hcfg : d.cfg = s.cfg) (hkey : d.key = s.key)
    (hregion : d.region = s.encryptedSection) (htxod : s.txod.length = s.respLen) (hk : k ≤ blocksFor s.respLen) :
    d.decrypted k = s.plainSection.take (16 * k) := by
  rw [State.decrypted, hcfg, hkey, hregion]
  exact decrypt_encrypt s.cfg.cipher s.key hk (by rw [length_plainSection s htxod]; omega)

/-- Settles O56: the peer's gate sees the section that ENCODE.ENC encrypted, so its length byte is N and its data the N
bytes of TXOD. -/
theorem encryptedRoundTrip : Obligations.EncryptedRoundTrip := by
  intro s t r hwf hencode hok hclass hcfg hcslen hcallsign hkey hkeyen hrxen hfree hidle hnew
  obtain ⟨hcs, -, n, hlen, rfl⟩ := written_of_exec_encode hencode hok
  obtain ⟨hwhole, htxod, hfits⟩ := txod_of_memory_wf hwf
  obtain ⟨hbyte, hblocks⟩ := bounds_of_responseLength hlen
  obtain ⟨d, hdeliver, hreach, hlength, hregion, hcfgD, hkeyD, hkeyenD, -⟩ :=
    deliver_to_peer ⟨hcfg, hcslen, hcallsign, hrxen, hfree, hidle, hnew⟩ hwf hcs hlen
  have hbody : s.responseBody true = s.encryptedSection := rfl
  rw [hbody] at hlength hregion
  rw [length_encryptedSection] at hlength
  obtain ⟨hceil, hpos⟩ := blocksFor_spec s.respLen
  have hfit := (ceil16_spec (1 + s.respLen)).2.1
  obtain ⟨-, -, -, hwholeN⟩ := cfg_caps s.cfg
  have hmax := blocksFor_le hwholeN hblocks
  have hdecrypted {k : Nat} := decrypted_encryptedSection (k := k) hcfgD (hkeyD.trans hkey) hregion htxod
  have hlengthByte : d.lengthByte = s.respLen := by
    rw [State.lengthByte, hdecrypted hpos]
    change (BitVec.ofNat 8 s.respLen).toNat = s.respLen
    rw [BitVec.toNat_ofNat]; omega
  have hdata : ((d.decrypted (blocksFor s.respLen)).drop 1).take s.respLen = s.txod := by
    rw [hdecrypted le_rfl, List.take_of_length_le (length_plainSection s htxod).le, State.plainSection, hwhole,
      List.drop_one, List.tail_cons, ← htxod, List.take_left]
  have hsec : d.SectionWhole := ⟨hkeyenD.trans hkeyen, by omega, by omega, by rw [hlength, hcfgD]; exact hmax⟩
  have hparse := gateDecryptsPrivateOptionalData d s.respid hreach (hcfgD ▸ hclass) hsec
    (by rw [hlengthByte, hcfgD]; omega) (by omega) (by rw [hlengthByte, hcfgD]; exact hfits)
  rw [hdeliver]
  refine ⟨_, hparse, rfl, rfl, rfl, rfl, ?_, ?_⟩
  · change BitVec.ofNat 16 d.lengthByte = s.txodlen
    rw [hlengthByte]
    exact (BitVec.ofNat_toNat _ _).trans (BitVec.setWidth_eq _)
  · change ((mapBlocks _ _ _).drop 1).take d.lengthByte = s.txod
    rw [← region_eq, hlengthByte, ← blocksFor_eq]
    exact hdata

/-! ## The converse -/

/-- What an accepted plaintext frame was (rules R177 to R182). -/
theorem judgeFrame_accepted_plaintext (hok : (judgeFrame s).parseOk = true) (hmode : (judgeFrame s).mode = .plaintext) :
    callsignMismatch s = false ∧ structuralLengthBad s = false ∧
      judgeFrame s = accept { setMode .plaintext (latchFid s.fidByte s) with
        optlen := BitVec.ofNat 16 s.sectionLen, optdata := s.region } := by
  obtain ⟨-, hjudge⟩ | ⟨-, -, hjudge⟩ | ⟨hmatch, hlen, ⟨-, hjudge⟩ | ⟨-, -, hjudge⟩ | ⟨-, hjudge⟩⟩ := judgeFrame_cases s
  all_goals rw [hjudge] at hok hmode ⊢
  · cases hok
  · cases hok
  · refine ⟨hmatch, hlen, ?_⟩
    obtain ⟨-, hstage⟩ | ⟨-, hstage⟩ := plaintextStage_cases (setMode .plaintext (latchFid s.fidByte s))
    · rw [publicFrame, hstage] at hok; cases hok
    · exact hstage
  · have hclass := (gateStage_classified (setMode .encrypted (latchFid s.fidByte s))).2
    exact nomatch (hmode.symm.trans hclass : GateState.plaintext = .encrypted)
  · cases hok

/-- A frame of which the callsign bytes are those stored is the callsign, the function id and the region (rule R100).
-/
theorem rxbuf_eq_parts (hwf : Memory.wf s = true) (hcs : s.CslenLegal) (hlen : s.LengthFits)
    (hbytes : ∀ i < s.cslen.toNat, bufByte s.rxbuf i = bufByte s.callsign i) :
    s.callsign.take s.cslen.toNat ++ [s.fidByte] ++ s.region = s.rxbuf := by
  obtain ⟨hcall, hrx, -⟩ := (memory_wf_iff s).mp hwf
  have hlength : s.rxbuf.length = s.rxlen.toNat := hrx.trans (min_eq_left hlen.2)
  have hin : s.cslen.toNat < s.rxbuf.length := by omega
  have hheader : s.callsign.take s.cslen.toNat = s.rxbuf.take s.cslen.toNat := by
    refine List.ext_getElem (by simp; omega) fun i hi _ => ?_
    have hi' : i < s.cslen.toNat := by simp at hi; omega
    have hbyte := hbytes i hi'
    rw [bufByte_of_lt (by omega), bufByte_of_lt (by omega)] at hbyte
    simp [hbyte]
  have hfid : s.fidByte = s.rxbuf[s.cslen.toNat] := bufByte_of_lt hin
  have hregion : s.region = s.rxbuf.drop (s.cslen.toNat + 1) := by
    rw [region_eq, List.take_of_length_le (by rw [List.length_drop, State.regionLength]; omega)]
  rw [hheader, hfid, hregion, List.take_append_getElem hin, List.take_append_drop]

/-- Settles O55: ENCODE writes the callsign, the parsed id and the parsed region, which are the parts of the frame. -/
theorem parsedPlainFrameIsReencoded : Obligations.ParsedPlainFrameIsReencoded := by
  intro s t r hen hwf hparse hok hmode hlast hcfg hcslen hcallsign hrespid htxod htxodlen hheard
  rw [exec_parse_enabled hen] at hparse
  cases hparse
  obtain ⟨hmatch, hlen, hjudge⟩ := judgeFrame_accepted_plaintext hok hmode
  rw [callsignMismatch_eq_false] at hmatch
  rw [structuralLengthBad_eq_false] at hlen
  rw [hjudge] at hrespid htxod htxodlen
  have hcs := hen.2.2
  have hbytes : ∀ i < s.cslen.toNat, bufByte s.rxbuf i = bufByte s.callsign i := by
    intro i hi
    obtain hlt | rfl : i < s.cslen.toNat - 1 ∨ i = s.cslen.toNat - 1 := by omega
    · exact hmatch.2 i hlt
    · exact hlast
  have hparts := rxbuf_eq_parts hwf hcs hlen hbytes
  have hwhole : s.region.take s.sectionLen = s.region :=
    List.take_of_length_le (length_region hwf ((structuralLengthBad_eq_false s).mpr hlen)).le
  have hsum : s.cslen.toNat + 1 + s.sectionLen = s.rxlen.toNat := by
    simp only [State.sectionLen, State.frameLen, State.csLen] at hlen ⊢
    omega
  have htxodlen' : r.txodlen.toNat = s.sectionLen := by
    rw [htxodlen]
    change (BitVec.ofNat 16 s.sectionLen).toNat = s.sectionLen
    rw [BitVec.toNat_ofNat]; omega
  have hcs' : r.CslenLegal := by rw [State.CslenLegal, hcslen, hcfg]; exact hcs
  refine ⟨_, encodeWritesThePlainFrame r hcs' hheard, rfl, ?txbuf, ?txlen⟩
  case txbuf =>
    change r.callsign.take r.cslen.toNat ++ [r.respid] ++ r.txod.take r.txodlen.toNat = s.rxbuf
    rw [hcallsign, hcslen, hrespid, htxod, htxodlen']
    change s.callsign.take s.cslen.toNat ++ [s.fidByte] ++ s.region.take s.sectionLen = s.rxbuf
    rw [hwhole, hparts]
  case txlen =>
    change BitVec.ofNat 16 (r.cslen.toNat + 1 + r.txodlen.toNat) = s.rxlen
    rw [hcslen, htxodlen', hsum]
    exact (BitVec.ofNat_toNat _ _).trans (BitVec.setWidth_eq _)

end Sys2Proof.Machine
end
